-- ==== Sys2Proof/Word.lean ====
section
/-! DEFINITION. The two word sizes of the block (00_scope.md R7, R10): 8-bit registers and bytes, 16-bit
pointers and addresses. Every helper that splits or joins them stands in Decode.lean. -/

namespace Sys2Proof

/-- `u8`: a byte of memory, an 8-bit register, an 8-bit immediate (R10). -/
abbrev Byte := BitVec 8

/-- `u16`: SP, PC, a register pair's value, a memory address (R10). -/
abbrev Word := BitVec 16

end Sys2Proof
end

