-- ==== Sys2Proof/Syntax.lean ====
section
/-! DEFINITION. The instruction set as syntax: the operand selectors of 30_encoding.md R64–R70 and `Instr`, one
constructor per row of spec/opcode_table.json, that is one per opcode byte (R71–R74, R77). A constructor's name is
its mnemonic with each operand in capitals after an underscore: `ldBC_D16` is `ld bc, d16`, `ldB_C` is `ld b, c`,
`AtHL` is the `(hl)` operand. An immediate operand is the constructor's argument. -/

namespace Sys2Proof

/-- The seven registers the 3-bit selector `R8` names (R64); its code 6 is the memory operand. -/
inductive Reg8 where
  | b | c | d | e | h | l | a
  deriving DecidableEq, Repr, Inhabited

/-- An 8-bit operand, what the 3-bit selector `R8` names (R64): a register or the byte at address HL. -/
inductive Operand8 where
  | reg (r : Reg8)
  | atHL
  deriving DecidableEq, Repr, Inhabited

/-- The 16-bit registers the selector `R16` names (R65). -/
inductive Pair16 where
  | bc | de | hl | sp
  deriving DecidableEq, Repr, Inhabited

/-- The pairs the push/pop selector `R16S` names (R66). -/
inductive StackPair where
  | bc | de | hl | af
  deriving DecidableEq, Repr, Inhabited

/-- The conditions the 2-bit field `cc` names (R67). -/
inductive Cond where
  | nz | z | nc | c
  deriving DecidableEq, Repr, Inhabited

/-- The operations the 3-bit field `o` names (R69). -/
inductive AluOp where
  | add | adc | sub | sbc | and | xor | or | cp
  deriving DecidableEq, Repr, Inhabited

/-- An instruction: one constructor per row of spec/opcode_table.json, the 206 implemented bytes in opcode order and then the 50 unimplemented ones. A `jr` offset is the signed number
−128..+127 of R68 (WellFormed.lean checks the range; log entry 19). -/
inductive Instr where
  /-- `nop`, 0x00 (R140) -/
  | nop
  /-- `ld bc, d16`, 0x01 (R141) -/
  | ldBC_D16 (d16 : Word)
  /-- `inc bc`, 0x03 (R142) -/
  | incBC
  /-- `inc b`, 0x04 (R144) -/
  | incB
  /-- `dec b`, 0x05 (R146) -/
  | decB
  /-- `ld b, d8`, 0x06 (R148) -/
  | ldB_D8 (d8 : Byte)
  /-- `dec bc`, 0x0B (R143) -/
  | decBC
  /-- `inc c`, 0x0C (R144) -/
  | incC
  /-- `dec c`, 0x0D (R146) -/
  | decC
  /-- `ld c, d8`, 0x0E (R148) -/
  | ldC_D8 (d8 : Byte)
  /-- `ld de, d16`, 0x11 (R141) -/
  | ldDE_D16 (d16 : Word)
  /-- `inc de`, 0x13 (R142) -/
  | incDE
  /-- `inc d`, 0x14 (R144) -/
  | incD
  /-- `dec d`, 0x15 (R146) -/
  | decD
  /-- `ld d, d8`, 0x16 (R148) -/
  | ldD_D8 (d8 : Byte)
  /-- `jr e`, 0x18 (R150) -/
  | jr (e : Int)
  /-- `dec de`, 0x1B (R143) -/
  | decDE
  /-- `inc e`, 0x1C (R144) -/
  | incE
  /-- `dec e`, 0x1D (R146) -/
  | decE
  /-- `ld e, d8`, 0x1E (R148) -/
  | ldE_D8 (d8 : Byte)
  /-- `jr nz, e`, 0x20 (R151) -/
  | jrNZ (e : Int)
  /-- `ld hl, d16`, 0x21 (R141) -/
  | ldHL_D16 (d16 : Word)
  /-- `inc hl`, 0x23 (R142) -/
  | incHL
  /-- `inc h`, 0x24 (R144) -/
  | incH
  /-- `dec h`, 0x25 (R146) -/
  | decH
  /-- `ld h, d8`, 0x26 (R148) -/
  | ldH_D8 (d8 : Byte)
  /-- `jr z, e`, 0x28 (R151) -/
  | jrZ (e : Int)
  /-- `dec hl`, 0x2B (R143) -/
  | decHL
  /-- `inc l`, 0x2C (R144) -/
  | incL
  /-- `dec l`, 0x2D (R146) -/
  | decL
  /-- `ld l, d8`, 0x2E (R148) -/
  | ldL_D8 (d8 : Byte)
  /-- `jr nc, e`, 0x30 (R151) -/
  | jrNC (e : Int)
  /-- `ld sp, d16`, 0x31 (R141) -/
  | ldSP_D16 (d16 : Word)
  /-- `inc sp`, 0x33 (R142) -/
  | incSP
  /-- `inc (hl)`, 0x34 (R145) -/
  | incAtHL
  /-- `dec (hl)`, 0x35 (R147) -/
  | decAtHL
  /-- `ld (hl), d8`, 0x36 (R149) -/
  | ldAtHL_D8 (d8 : Byte)
  /-- `jr c, e`, 0x38 (R151) -/
  | jrC (e : Int)
  /-- `dec sp`, 0x3B (R143) -/
  | decSP
  /-- `inc a`, 0x3C (R144) -/
  | incA
  /-- `dec a`, 0x3D (R146) -/
  | decA
  /-- `ld a, d8`, 0x3E (R148) -/
  | ldA_D8 (d8 : Byte)
  /-- `ld b, b`, 0x40 (R170) -/
  | ldB_B
  /-- `ld b, c`, 0x41 (R170) -/
  | ldB_C
  /-- `ld b, d`, 0x42 (R170) -/
  | ldB_D
  /-- `ld b, e`, 0x43 (R170) -/
  | ldB_E
  /-- `ld b, h`, 0x44 (R170) -/
  | ldB_H
  /-- `ld b, l`, 0x45 (R170) -/
  | ldB_L
  /-- `ld b, (hl)`, 0x46 (R171) -/
  | ldB_AtHL
  /-- `ld b, a`, 0x47 (R170) -/
  | ldB_A
  /-- `ld c, b`, 0x48 (R170) -/
  | ldC_B
  /-- `ld c, c`, 0x49 (R170) -/
  | ldC_C
  /-- `ld c, d`, 0x4A (R170) -/
  | ldC_D
  /-- `ld c, e`, 0x4B (R170) -/
  | ldC_E
  /-- `ld c, h`, 0x4C (R170) -/
  | ldC_H
  /-- `ld c, l`, 0x4D (R170) -/
  | ldC_L
  /-- `ld c, (hl)`, 0x4E (R171) -/
  | ldC_AtHL
  /-- `ld c, a`, 0x4F (R170) -/
  | ldC_A
  /-- `ld d, b`, 0x50 (R170) -/
  | ldD_B
  /-- `ld d, c`, 0x51 (R170) -/
  | ldD_C
  /-- `ld d, d`, 0x52 (R170) -/
  | ldD_D
  /-- `ld d, e`, 0x53 (R170) -/
  | ldD_E
  /-- `ld d, h`, 0x54 (R170) -/
  | ldD_H
  /-- `ld d, l`, 0x55 (R170) -/
  | ldD_L
  /-- `ld d, (hl)`, 0x56 (R171) -/
  | ldD_AtHL
  /-- `ld d, a`, 0x57 (R170) -/
  | ldD_A
  /-- `ld e, b`, 0x58 (R170) -/
  | ldE_B
  /-- `ld e, c`, 0x59 (R170) -/
  | ldE_C
  /-- `ld e, d`, 0x5A (R170) -/
  | ldE_D
  /-- `ld e, e`, 0x5B (R170) -/
  | ldE_E
  /-- `ld e, h`, 0x5C (R170) -/
  | ldE_H
  /-- `ld e, l`, 0x5D (R170) -/
  | ldE_L
  /-- `ld e, (hl)`, 0x5E (R171) -/
  | ldE_AtHL
  /-- `ld e, a`, 0x5F (R170) -/
  | ldE_A
  /-- `ld h, b`, 0x60 (R170) -/
  | ldH_B
  /-- `ld h, c`, 0x61 (R170) -/
  | ldH_C
  /-- `ld h, d`, 0x62 (R170) -/
  | ldH_D
  /-- `ld h, e`, 0x63 (R170) -/
  | ldH_E
  /-- `ld h, h`, 0x64 (R170) -/
  | ldH_H
  /-- `ld h, l`, 0x65 (R170) -/
  | ldH_L
  /-- `ld h, (hl)`, 0x66 (R171) -/
  | ldH_AtHL
  /-- `ld h, a`, 0x67 (R170) -/
  | ldH_A
  /-- `ld l, b`, 0x68 (R170) -/
  | ldL_B
  /-- `ld l, c`, 0x69 (R170) -/
  | ldL_C
  /-- `ld l, d`, 0x6A (R170) -/
  | ldL_D
  /-- `ld l, e`, 0x6B (R170) -/
  | ldL_E
  /-- `ld l, h`, 0x6C (R170) -/
  | ldL_H
  /-- `ld l, l`, 0x6D (R170) -/
  | ldL_L
  /-- `ld l, (hl)`, 0x6E (R171) -/
  | ldL_AtHL
  /-- `ld l, a`, 0x6F (R170) -/
  | ldL_A
  /-- `ld (hl), b`, 0x70 (R172) -/
  | ldAtHL_B
  /-- `ld (hl), c`, 0x71 (R172) -/
  | ldAtHL_C
  /-- `ld (hl), d`, 0x72 (R172) -/
  | ldAtHL_D
  /-- `ld (hl), e`, 0x73 (R172) -/
  | ldAtHL_E
  /-- `ld (hl), h`, 0x74 (R172) -/
  | ldAtHL_H
  /-- `ld (hl), l`, 0x75 (R172) -/
  | ldAtHL_L
  /-- `halt`, 0x76 (R173) -/
  | halt
  /-- `ld (hl), a`, 0x77 (R172) -/
  | ldAtHL_A
  /-- `ld a, b`, 0x78 (R170) -/
  | ldA_B
  /-- `ld a, c`, 0x79 (R170) -/
  | ldA_C
  /-- `ld a, d`, 0x7A (R170) -/
  | ldA_D
  /-- `ld a, e`, 0x7B (R170) -/
  | ldA_E
  /-- `ld a, h`, 0x7C (R170) -/
  | ldA_H
  /-- `ld a, l`, 0x7D (R170) -/
  | ldA_L
  /-- `ld a, (hl)`, 0x7E (R171) -/
  | ldA_AtHL
  /-- `ld a, a`, 0x7F (R170) -/
  | ldA_A
  /-- `add a, b`, 0x80 (R180) -/
  | addA_B
  /-- `add a, c`, 0x81 (R180) -/
  | addA_C
  /-- `add a, d`, 0x82 (R180) -/
  | addA_D
  /-- `add a, e`, 0x83 (R180) -/
  | addA_E
  /-- `add a, h`, 0x84 (R180) -/
  | addA_H
  /-- `add a, l`, 0x85 (R180) -/
  | addA_L
  /-- `add a, (hl)`, 0x86 (R181) -/
  | addA_AtHL
  /-- `add a, a`, 0x87 (R180) -/
  | addA_A
  /-- `adc a, b`, 0x88 (R182) -/
  | adcA_B
  /-- `adc a, c`, 0x89 (R182) -/
  | adcA_C
  /-- `adc a, d`, 0x8A (R182) -/
  | adcA_D
  /-- `adc a, e`, 0x8B (R182) -/
  | adcA_E
  /-- `adc a, h`, 0x8C (R182) -/
  | adcA_H
  /-- `adc a, l`, 0x8D (R182) -/
  | adcA_L
  /-- `adc a, (hl)`, 0x8E (R183) -/
  | adcA_AtHL
  /-- `adc a, a`, 0x8F (R182) -/
  | adcA_A
  /-- `sub a, b`, 0x90 (R184) -/
  | subA_B
  /-- `sub a, c`, 0x91 (R184) -/
  | subA_C
  /-- `sub a, d`, 0x92 (R184) -/
  | subA_D
  /-- `sub a, e`, 0x93 (R184) -/
  | subA_E
  /-- `sub a, h`, 0x94 (R184) -/
  | subA_H
  /-- `sub a, l`, 0x95 (R184) -/
  | subA_L
  /-- `sub a, (hl)`, 0x96 (R185) -/
  | subA_AtHL
  /-- `sub a, a`, 0x97 (R184) -/
  | subA_A
  /-- `sbc a, b`, 0x98 (R186) -/
  | sbcA_B
  /-- `sbc a, c`, 0x99 (R186) -/
  | sbcA_C
  /-- `sbc a, d`, 0x9A (R186) -/
  | sbcA_D
  /-- `sbc a, e`, 0x9B (R186) -/
  | sbcA_E
  /-- `sbc a, h`, 0x9C (R186) -/
  | sbcA_H
  /-- `sbc a, l`, 0x9D (R186) -/
  | sbcA_L
  /-- `sbc a, (hl)`, 0x9E (R187) -/
  | sbcA_AtHL
  /-- `sbc a, a`, 0x9F (R186) -/
  | sbcA_A
  /-- `and a, b`, 0xA0 (R188) -/
  | andA_B
  /-- `and a, c`, 0xA1 (R188) -/
  | andA_C
  /-- `and a, d`, 0xA2 (R188) -/
  | andA_D
  /-- `and a, e`, 0xA3 (R188) -/
  | andA_E
  /-- `and a, h`, 0xA4 (R188) -/
  | andA_H
  /-- `and a, l`, 0xA5 (R188) -/
  | andA_L
  /-- `and a, (hl)`, 0xA6 (R189) -/
  | andA_AtHL
  /-- `and a, a`, 0xA7 (R188) -/
  | andA_A
  /-- `xor a, b`, 0xA8 (R190) -/
  | xorA_B
  /-- `xor a, c`, 0xA9 (R190) -/
  | xorA_C
  /-- `xor a, d`, 0xAA (R190) -/
  | xorA_D
  /-- `xor a, e`, 0xAB (R190) -/
  | xorA_E
  /-- `xor a, h`, 0xAC (R190) -/
  | xorA_H
  /-- `xor a, l`, 0xAD (R190) -/
  | xorA_L
  /-- `xor a, (hl)`, 0xAE (R191) -/
  | xorA_AtHL
  /-- `xor a, a`, 0xAF (R190) -/
  | xorA_A
  /-- `or a, b`, 0xB0 (R192) -/
  | orA_B
  /-- `or a, c`, 0xB1 (R192) -/
  | orA_C
  /-- `or a, d`, 0xB2 (R192) -/
  | orA_D
  /-- `or a, e`, 0xB3 (R192) -/
  | orA_E
  /-- `or a, h`, 0xB4 (R192) -/
  | orA_H
  /-- `or a, l`, 0xB5 (R192) -/
  | orA_L
  /-- `or a, (hl)`, 0xB6 (R193) -/
  | orA_AtHL
  /-- `or a, a`, 0xB7 (R192) -/
  | orA_A
  /-- `cp a, b`, 0xB8 (R194) -/
  | cpA_B
  /-- `cp a, c`, 0xB9 (R194) -/
  | cpA_C
  /-- `cp a, d`, 0xBA (R194) -/
  | cpA_D
  /-- `cp a, e`, 0xBB (R194) -/
  | cpA_E
  /-- `cp a, h`, 0xBC (R194) -/
  | cpA_H
  /-- `cp a, l`, 0xBD (R194) -/
  | cpA_L
  /-- `cp a, (hl)`, 0xBE (R195) -/
  | cpA_AtHL
  /-- `cp a, a`, 0xBF (R194) -/
  | cpA_A
  /-- `ret nz`, 0xC0 (R209) -/
  | retNZ
  /-- `pop bc`, 0xC1 (R214) -/
  | popBC
  /-- `jp nz, a16`, 0xC2 (R210) -/
  | jpNZ (a16 : Word)
  /-- `call nz, a16`, 0xC4 (R211) -/
  | callNZ (a16 : Word)
  /-- `push bc`, 0xC5 (R213) -/
  | pushBC
  /-- `add a, d8`, 0xC6 (R201) -/
  | addA_D8 (d8 : Byte)
  /-- `rst 0x00`, 0xC7 (R212) -/
  | rst00
  /-- `ret z`, 0xC8 (R209) -/
  | retZ
  /-- `jp z, a16`, 0xCA (R210) -/
  | jpZ (a16 : Word)
  /-- `call z, a16`, 0xCC (R211) -/
  | callZ (a16 : Word)
  /-- `adc a, d8`, 0xCE (R202) -/
  | adcA_D8 (d8 : Byte)
  /-- `rst 0x08`, 0xCF (R212) -/
  | rst08
  /-- `ret nc`, 0xD0 (R209) -/
  | retNC
  /-- `pop de`, 0xD1 (R214) -/
  | popDE
  /-- `jp nc, a16`, 0xD2 (R210) -/
  | jpNC (a16 : Word)
  /-- `call nc, a16`, 0xD4 (R211) -/
  | callNC (a16 : Word)
  /-- `push de`, 0xD5 (R213) -/
  | pushDE
  /-- `sub a, d8`, 0xD6 (R203) -/
  | subA_D8 (d8 : Byte)
  /-- `rst 0x10`, 0xD7 (R212) -/
  | rst10
  /-- `ret c`, 0xD8 (R209) -/
  | retC
  /-- `jp c, a16`, 0xDA (R210) -/
  | jpC (a16 : Word)
  /-- `call c, a16`, 0xDC (R211) -/
  | callC (a16 : Word)
  /-- `sbc a, d8`, 0xDE (R204) -/
  | sbcA_D8 (d8 : Byte)
  /-- `rst 0x18`, 0xDF (R212) -/
  | rst18
  /-- `pop hl`, 0xE1 (R214) -/
  | popHL
  /-- `push hl`, 0xE5 (R213) -/
  | pushHL
  /-- `and a, d8`, 0xE6 (R205) -/
  | andA_D8 (d8 : Byte)
  /-- `rst 0x20`, 0xE7 (R212) -/
  | rst20
  /-- `xor a, d8`, 0xEE (R206) -/
  | xorA_D8 (d8 : Byte)
  /-- `rst 0x28`, 0xEF (R212) -/
  | rst28
  /-- `pop af`, 0xF1 (R215) -/
  | popAF
  /-- `push af`, 0xF5 (R213) -/
  | pushAF
  /-- `or a, d8`, 0xF6 (R207) -/
  | orA_D8 (d8 : Byte)
  /-- `rst 0x30`, 0xF7 (R212) -/
  | rst30
  /-- `cp a, d8`, 0xFE (R208) -/
  | cpA_D8 (d8 : Byte)
  /-- `rst 0x38`, 0xFF (R212) -/
  | rst38
  /-- unimplemented byte 0x02 (R77, R301) -/
  | unimplemented02
  /-- unimplemented byte 0x07 (R77, R301) -/
  | unimplemented07
  /-- unimplemented byte 0x08 (R77, R301) -/
  | unimplemented08
  /-- unimplemented byte 0x09 (R77, R301) -/
  | unimplemented09
  /-- unimplemented byte 0x0A (R77, R301) -/
  | unimplemented0A
  /-- unimplemented byte 0x0F (R77, R301) -/
  | unimplemented0F
  /-- unimplemented byte 0x10 (R77, R301) -/
  | unimplemented10
  /-- unimplemented byte 0x12 (R77, R301) -/
  | unimplemented12
  /-- unimplemented byte 0x17 (R77, R301) -/
  | unimplemented17
  /-- unimplemented byte 0x19 (R77, R301) -/
  | unimplemented19
  /-- unimplemented byte 0x1A (R77, R301) -/
  | unimplemented1A
  /-- unimplemented byte 0x1F (R77, R301) -/
  | unimplemented1F
  /-- unimplemented byte 0x22 (R77, R301) -/
  | unimplemented22
  /-- unimplemented byte 0x27 (R77, R301) -/
  | unimplemented27
  /-- unimplemented byte 0x29 (R77, R301) -/
  | unimplemented29
  /-- unimplemented byte 0x2A (R77, R301) -/
  | unimplemented2A
  /-- unimplemented byte 0x2F (R77, R301) -/
  | unimplemented2F
  /-- unimplemented byte 0x32 (R77, R301) -/
  | unimplemented32
  /-- unimplemented byte 0x37 (R77, R301) -/
  | unimplemented37
  /-- unimplemented byte 0x39 (R77, R301) -/
  | unimplemented39
  /-- unimplemented byte 0x3A (R77, R301) -/
  | unimplemented3A
  /-- unimplemented byte 0x3F (R77, R301) -/
  | unimplemented3F
  /-- unimplemented byte 0xC3 (R77, R301) -/
  | unimplementedC3
  /-- unimplemented byte 0xC9 (R77, R301) -/
  | unimplementedC9
  /-- unimplemented byte 0xCB (R77, R301) -/
  | unimplementedCB
  /-- unimplemented byte 0xCD (R77, R301) -/
  | unimplementedCD
  /-- unimplemented byte 0xD3 (R77, R301) -/
  | unimplementedD3
  /-- unimplemented byte 0xD9 (R77, R301) -/
  | unimplementedD9
  /-- unimplemented byte 0xDB (R77, R301) -/
  | unimplementedDB
  /-- unimplemented byte 0xDD (R77, R301) -/
  | unimplementedDD
  /-- unimplemented byte 0xE0 (R77, R301) -/
  | unimplementedE0
  /-- unimplemented byte 0xE2 (R77, R301) -/
  | unimplementedE2
  /-- unimplemented byte 0xE3 (R77, R301) -/
  | unimplementedE3
  /-- unimplemented byte 0xE4 (R77, R301) -/
  | unimplementedE4
  /-- unimplemented byte 0xE8 (R77, R301) -/
  | unimplementedE8
  /-- unimplemented byte 0xE9 (R77, R301) -/
  | unimplementedE9
  /-- unimplemented byte 0xEA (R77, R301) -/
  | unimplementedEA
  /-- unimplemented byte 0xEB (R77, R301) -/
  | unimplementedEB
  /-- unimplemented byte 0xEC (R77, R301) -/
  | unimplementedEC
  /-- unimplemented byte 0xED (R77, R301) -/
  | unimplementedED
  /-- unimplemented byte 0xF0 (R77, R301) -/
  | unimplementedF0
  /-- unimplemented byte 0xF2 (R77, R301) -/
  | unimplementedF2
  /-- unimplemented byte 0xF3 (R77, R301) -/
  | unimplementedF3
  /-- unimplemented byte 0xF4 (R77, R301) -/
  | unimplementedF4
  /-- unimplemented byte 0xF8 (R77, R301) -/
  | unimplementedF8
  /-- unimplemented byte 0xF9 (R77, R301) -/
  | unimplementedF9
  /-- unimplemented byte 0xFA (R77, R301) -/
  | unimplementedFA
  /-- unimplemented byte 0xFB (R77, R301) -/
  | unimplementedFB
  /-- unimplemented byte 0xFC (R77, R301) -/
  | unimplementedFC
  /-- unimplemented byte 0xFD (R77, R301) -/
  | unimplementedFD
  deriving DecidableEq, Repr, Inhabited

end Sys2Proof
end

