-- ==== Sys2Proof/WellFormed.lean ====
section
/-! DEFINITION. The instructions an encoding admits. Every field but one is as wide as its type, so the one check is
the range of a relative jump's offset (30_encoding.md R68, R82). -/

namespace Sys2Proof

/-- R68, R82: the offset `e` of a relative jump is a signed 8-bit number, −128..+127. -/
def offsetInRange (e : Int) : Bool := decide (-128 ≤ e ∧ e ≤ 127)

/-- Whether some instruction bytes decode to this instruction. -/
def Instr.wellFormed : Instr → Bool
  | .jr e => offsetInRange e
  | .jrNZ e => offsetInRange e
  | .jrZ e => offsetInRange e
  | .jrNC e => offsetInRange e
  | .jrC e => offsetInRange e
  | .nop | .ldBC_D16 _ | .incBC | .incB | .decB | .ldB_D8 _ | .decBC | .incC | .decC | .ldC_D8 _ | .ldDE_D16 _
  | .incDE | .incD | .decD | .ldD_D8 _ | .decDE | .incE | .decE | .ldE_D8 _ | .ldHL_D16 _ | .incHL | .incH
  | .decH | .ldH_D8 _ | .decHL | .incL | .decL | .ldL_D8 _ | .ldSP_D16 _ | .incSP | .incAtHL | .decAtHL
  | .ldAtHL_D8 _ | .decSP | .incA | .decA | .ldA_D8 _ | .ldB_B | .ldB_C | .ldB_D | .ldB_E | .ldB_H | .ldB_L
  | .ldB_AtHL | .ldB_A | .ldC_B | .ldC_C | .ldC_D | .ldC_E | .ldC_H | .ldC_L | .ldC_AtHL | .ldC_A | .ldD_B
  | .ldD_C | .ldD_D | .ldD_E | .ldD_H | .ldD_L | .ldD_AtHL | .ldD_A | .ldE_B | .ldE_C | .ldE_D | .ldE_E
  | .ldE_H | .ldE_L | .ldE_AtHL | .ldE_A | .ldH_B | .ldH_C | .ldH_D | .ldH_E | .ldH_H | .ldH_L | .ldH_AtHL
  | .ldH_A | .ldL_B | .ldL_C | .ldL_D | .ldL_E | .ldL_H | .ldL_L | .ldL_AtHL | .ldL_A | .ldAtHL_B | .ldAtHL_C
  | .ldAtHL_D | .ldAtHL_E | .ldAtHL_H | .ldAtHL_L | .halt | .ldAtHL_A | .ldA_B | .ldA_C | .ldA_D | .ldA_E
  | .ldA_H | .ldA_L | .ldA_AtHL | .ldA_A | .addA_B | .addA_C | .addA_D | .addA_E | .addA_H | .addA_L
  | .addA_AtHL | .addA_A | .adcA_B | .adcA_C | .adcA_D | .adcA_E | .adcA_H | .adcA_L | .adcA_AtHL | .adcA_A
  | .subA_B | .subA_C | .subA_D | .subA_E | .subA_H | .subA_L | .subA_AtHL | .subA_A | .sbcA_B | .sbcA_C
  | .sbcA_D | .sbcA_E | .sbcA_H | .sbcA_L | .sbcA_AtHL | .sbcA_A | .andA_B | .andA_C | .andA_D | .andA_E
  | .andA_H | .andA_L | .andA_AtHL | .andA_A | .xorA_B | .xorA_C | .xorA_D | .xorA_E | .xorA_H | .xorA_L
  | .xorA_AtHL | .xorA_A | .orA_B | .orA_C | .orA_D | .orA_E | .orA_H | .orA_L | .orA_AtHL | .orA_A | .cpA_B
  | .cpA_C | .cpA_D | .cpA_E | .cpA_H | .cpA_L | .cpA_AtHL | .cpA_A | .retNZ | .popBC | .jpNZ _ | .callNZ _
  | .pushBC | .addA_D8 _ | .rst00 | .retZ | .jpZ _ | .callZ _ | .adcA_D8 _ | .rst08 | .retNC | .popDE
  | .jpNC _ | .callNC _ | .pushDE | .subA_D8 _ | .rst10 | .retC | .jpC _ | .callC _ | .sbcA_D8 _ | .rst18
  | .popHL | .pushHL | .andA_D8 _ | .rst20 | .xorA_D8 _ | .rst28 | .popAF | .pushAF | .orA_D8 _ | .rst30
  | .cpA_D8 _ | .rst38 | .unimplemented02 | .unimplemented07 | .unimplemented08 | .unimplemented09
  | .unimplemented0A | .unimplemented0F | .unimplemented10 | .unimplemented12 | .unimplemented17
  | .unimplemented19 | .unimplemented1A | .unimplemented1F | .unimplemented22 | .unimplemented27
  | .unimplemented29 | .unimplemented2A | .unimplemented2F | .unimplemented32 | .unimplemented37
  | .unimplemented39 | .unimplemented3A | .unimplemented3F | .unimplementedC3 | .unimplementedC9
  | .unimplementedCB | .unimplementedCD | .unimplementedD3 | .unimplementedD9 | .unimplementedDB
  | .unimplementedDD | .unimplementedE0 | .unimplementedE2 | .unimplementedE3 | .unimplementedE4
  | .unimplementedE8 | .unimplementedE9 | .unimplementedEA | .unimplementedEB | .unimplementedEC
  | .unimplementedED | .unimplementedF0 | .unimplementedF2 | .unimplementedF3 | .unimplementedF4
  | .unimplementedF8 | .unimplementedF9 | .unimplementedFA | .unimplementedFB | .unimplementedFC
  | .unimplementedFD => true

end Sys2Proof
end

