-- ==== Sys2Proof/Decode.lean ====
section
/-! DEFINITION. Decoding and encoding (30_encoding.md). First the byte-order and field helpers, then the operand
selectors, then one builder per instruction form (from selected operands to the constructor), the decoder of R76, and
after it the encoder, written from the byte lists of R71–R74 and R77 and not from the decoder. -/

namespace Sys2Proof

/-! ## Bytes and words (10_state.md R21, 20_memory.md R44) -/

/-- `hi:lo`, the 16-bit value `hi * 256 + lo` (R10). -/
def hiLo (hi lo : Byte) : Word := hi ++ lo

/-- `v[15:8]` (R9). -/
def hiByte (v : Word) : Byte := v.extractLsb' 8 8

/-- `v[7:0]` (R9). -/
def loByte (v : Word) : Byte := v.extractLsb' 0 8

/-! ## Fields of the opcode byte (R60, R63) -/

/-- The quadrant, `op[7:6]` (R60). -/
def fieldX (op : Byte) : Nat := (op.extractLsb' 6 2).toNat

/-- `op[5:3]` (R63). -/
def fieldY (op : Byte) : Nat := (op.extractLsb' 3 3).toNat

/-- `op[2:0]` (R63). -/
def fieldZ (op : Byte) : Nat := (op.extractLsb' 0 3).toNat

/-- `op[5:4]` (R63). -/
def fieldP (op : Byte) : Nat := (op.extractLsb' 4 2).toNat

/-- `op[3]` (R63). -/
def fieldQ (op : Byte) : Nat := (op.extractLsb' 3 1).toNat

/-! ## Operand selectors, from a field's value; each is total on its field (R79) -/

/-- The selector `R8` (R64). -/
def operand8Of : Nat → Operand8
  | 0 => .reg .b
  | 1 => .reg .c
  | 2 => .reg .d
  | 3 => .reg .e
  | 4 => .reg .h
  | 5 => .reg .l
  | 6 => .atHL
  | _ => .reg .a

/-- The selector `R16` (R65). -/
def pair16Of : Nat → Pair16
  | 0 => .bc
  | 1 => .de
  | 2 => .hl
  | _ => .sp

/-- The push/pop selector `R16S` (R66). -/
def stackPairOf : Nat → StackPair
  | 0 => .bc
  | 1 => .de
  | 2 => .hl
  | _ => .af

/-- The condition field `cc` (R67). -/
def condOf : Nat → Cond
  | 0 => .nz
  | 1 => .z
  | 2 => .nc
  | _ => .c

/-- The operation field `o` (R69). -/
def aluOpOf : Nat → AluOp
  | 0 => .add
  | 1 => .adc
  | 2 => .sub
  | 3 => .sbc
  | 4 => .and
  | 5 => .xor
  | 6 => .or
  | _ => .cp

/-! ## Builders: the constructor of a form with given operands -/

/-- LD rr,d16 (R141). -/
def Instr.ldPairImm : Pair16 → Word → Instr
  | .bc, v => .ldBC_D16 v
  | .de, v => .ldDE_D16 v
  | .hl, v => .ldHL_D16 v
  | .sp, v => .ldSP_D16 v

/-- INC rr (R142). -/
def Instr.incPair : Pair16 → Instr
  | .bc => .incBC
  | .de => .incDE
  | .hl => .incHL
  | .sp => .incSP

/-- DEC rr (R143). -/
def Instr.decPair : Pair16 → Instr
  | .bc => .decBC
  | .de => .decDE
  | .hl => .decHL
  | .sp => .decSP

/-- INC r (R144). -/
def Instr.incReg : Reg8 → Instr
  | .b => .incB
  | .c => .incC
  | .d => .incD
  | .e => .incE
  | .h => .incH
  | .l => .incL
  | .a => .incA

/-- DEC r (R146). -/
def Instr.decReg : Reg8 → Instr
  | .b => .decB
  | .c => .decC
  | .d => .decD
  | .e => .decE
  | .h => .decH
  | .l => .decL
  | .a => .decA

/-- LD r,d8 (R148). -/
def Instr.ldRegImm : Reg8 → Byte → Instr
  | .b, v => .ldB_D8 v
  | .c, v => .ldC_D8 v
  | .d, v => .ldD_D8 v
  | .e, v => .ldE_D8 v
  | .h, v => .ldH_D8 v
  | .l, v => .ldL_D8 v
  | .a, v => .ldA_D8 v

/-- JR cc,e (R151). -/
def Instr.jrCond : Cond → Int → Instr
  | .nz, e => .jrNZ e
  | .z, e => .jrZ e
  | .nc, e => .jrNC e
  | .c, e => .jrC e

/-- LD r,r' (R170): destination, source. -/
def Instr.ldRegReg : Reg8 → Reg8 → Instr
  | .b, .b => .ldB_B
  | .b, .c => .ldB_C
  | .b, .d => .ldB_D
  | .b, .e => .ldB_E
  | .b, .h => .ldB_H
  | .b, .l => .ldB_L
  | .b, .a => .ldB_A
  | .c, .b => .ldC_B
  | .c, .c => .ldC_C
  | .c, .d => .ldC_D
  | .c, .e => .ldC_E
  | .c, .h => .ldC_H
  | .c, .l => .ldC_L
  | .c, .a => .ldC_A
  | .d, .b => .ldD_B
  | .d, .c => .ldD_C
  | .d, .d => .ldD_D
  | .d, .e => .ldD_E
  | .d, .h => .ldD_H
  | .d, .l => .ldD_L
  | .d, .a => .ldD_A
  | .e, .b => .ldE_B
  | .e, .c => .ldE_C
  | .e, .d => .ldE_D
  | .e, .e => .ldE_E
  | .e, .h => .ldE_H
  | .e, .l => .ldE_L
  | .e, .a => .ldE_A
  | .h, .b => .ldH_B
  | .h, .c => .ldH_C
  | .h, .d => .ldH_D
  | .h, .e => .ldH_E
  | .h, .h => .ldH_H
  | .h, .l => .ldH_L
  | .h, .a => .ldH_A
  | .l, .b => .ldL_B
  | .l, .c => .ldL_C
  | .l, .d => .ldL_D
  | .l, .e => .ldL_E
  | .l, .h => .ldL_H
  | .l, .l => .ldL_L
  | .l, .a => .ldL_A
  | .a, .b => .ldA_B
  | .a, .c => .ldA_C
  | .a, .d => .ldA_D
  | .a, .e => .ldA_E
  | .a, .h => .ldA_H
  | .a, .l => .ldA_L
  | .a, .a => .ldA_A

/-- LD r,(HL) (R171). -/
def Instr.ldRegAtHL : Reg8 → Instr
  | .b => .ldB_AtHL
  | .c => .ldC_AtHL
  | .d => .ldD_AtHL
  | .e => .ldE_AtHL
  | .h => .ldH_AtHL
  | .l => .ldL_AtHL
  | .a => .ldA_AtHL

/-- LD (HL),r (R172). -/
def Instr.ldAtHLReg : Reg8 → Instr
  | .b => .ldAtHL_B
  | .c => .ldAtHL_C
  | .d => .ldAtHL_D
  | .e => .ldAtHL_E
  | .h => .ldAtHL_H
  | .l => .ldAtHL_L
  | .a => .ldAtHL_A

/-- The operations with A and a register (R180, R182, R184, R186, R188, R190, R192, R194). -/
def Instr.aluReg : AluOp → Reg8 → Instr
  | .add, .b => .addA_B
  | .add, .c => .addA_C
  | .add, .d => .addA_D
  | .add, .e => .addA_E
  | .add, .h => .addA_H
  | .add, .l => .addA_L
  | .add, .a => .addA_A
  | .adc, .b => .adcA_B
  | .adc, .c => .adcA_C
  | .adc, .d => .adcA_D
  | .adc, .e => .adcA_E
  | .adc, .h => .adcA_H
  | .adc, .l => .adcA_L
  | .adc, .a => .adcA_A
  | .sub, .b => .subA_B
  | .sub, .c => .subA_C
  | .sub, .d => .subA_D
  | .sub, .e => .subA_E
  | .sub, .h => .subA_H
  | .sub, .l => .subA_L
  | .sub, .a => .subA_A
  | .sbc, .b => .sbcA_B
  | .sbc, .c => .sbcA_C
  | .sbc, .d => .sbcA_D
  | .sbc, .e => .sbcA_E
  | .sbc, .h => .sbcA_H
  | .sbc, .l => .sbcA_L
  | .sbc, .a => .sbcA_A
  | .and, .b => .andA_B
  | .and, .c => .andA_C
  | .and, .d => .andA_D
  | .and, .e => .andA_E
  | .and, .h => .andA_H
  | .and, .l => .andA_L
  | .and, .a => .andA_A
  | .xor, .b => .xorA_B
  | .xor, .c => .xorA_C
  | .xor, .d => .xorA_D
  | .xor, .e => .xorA_E
  | .xor, .h => .xorA_H
  | .xor, .l => .xorA_L
  | .xor, .a => .xorA_A
  | .or, .b => .orA_B
  | .or, .c => .orA_C
  | .or, .d => .orA_D
  | .or, .e => .orA_E
  | .or, .h => .orA_H
  | .or, .l => .orA_L
  | .or, .a => .orA_A
  | .cp, .b => .cpA_B
  | .cp, .c => .cpA_C
  | .cp, .d => .cpA_D
  | .cp, .e => .cpA_E
  | .cp, .h => .cpA_H
  | .cp, .l => .cpA_L
  | .cp, .a => .cpA_A

/-- The operations with A and the byte at HL (R181, R183, R185, R187, R189, R191, R193, R195). -/
def Instr.aluAtHL : AluOp → Instr
  | .add => .addA_AtHL
  | .adc => .adcA_AtHL
  | .sub => .subA_AtHL
  | .sbc => .sbcA_AtHL
  | .and => .andA_AtHL
  | .xor => .xorA_AtHL
  | .or => .orA_AtHL
  | .cp => .cpA_AtHL

/-- The operations with A and an immediate (R201–R208). -/
def Instr.aluImm : AluOp → Byte → Instr
  | .add, v => .addA_D8 v
  | .adc, v => .adcA_D8 v
  | .sub, v => .subA_D8 v
  | .sbc, v => .sbcA_D8 v
  | .and, v => .andA_D8 v
  | .xor, v => .xorA_D8 v
  | .or, v => .orA_D8 v
  | .cp, v => .cpA_D8 v

/-- RET cc (R209). -/
def Instr.retCond : Cond → Instr
  | .nz => .retNZ
  | .z => .retZ
  | .nc => .retNC
  | .c => .retC

/-- JP cc,a16 (R210). -/
def Instr.jpCond : Cond → Word → Instr
  | .nz, v => .jpNZ v
  | .z, v => .jpZ v
  | .nc, v => .jpNC v
  | .c, v => .jpC v

/-- CALL cc,a16 (R211). -/
def Instr.callCond : Cond → Word → Instr
  | .nz, v => .callNZ v
  | .z, v => .callZ v
  | .nc, v => .callNC v
  | .c, v => .callC v

/-- RST t*8 for the 3-bit field t (R212, R70). -/
def Instr.rst : Nat → Instr
  | 0 => .rst00
  | 1 => .rst08
  | 2 => .rst10
  | 3 => .rst18
  | 4 => .rst20
  | 5 => .rst28
  | 6 => .rst30
  | _ => .rst38

/-- PUSH rr (R213). -/
def Instr.pushPair : StackPair → Instr
  | .bc => .pushBC
  | .de => .pushDE
  | .hl => .pushHL
  | .af => .pushAF

/-- POP rr and POP AF (R214, R215). -/
def Instr.popPair : StackPair → Instr
  | .bc => .popBC
  | .de => .popDE
  | .hl => .popHL
  | .af => .popAF

/-- The 50 unimplemented bytes, listed by R77; no other byte. -/
def Instr.unimplemented : Nat → Option Instr
  | 0x02 => some .unimplemented02
  | 0x07 => some .unimplemented07
  | 0x08 => some .unimplemented08
  | 0x09 => some .unimplemented09
  | 0x0A => some .unimplemented0A
  | 0x0F => some .unimplemented0F
  | 0x10 => some .unimplemented10
  | 0x12 => some .unimplemented12
  | 0x17 => some .unimplemented17
  | 0x19 => some .unimplemented19
  | 0x1A => some .unimplemented1A
  | 0x1F => some .unimplemented1F
  | 0x22 => some .unimplemented22
  | 0x27 => some .unimplemented27
  | 0x29 => some .unimplemented29
  | 0x2A => some .unimplemented2A
  | 0x2F => some .unimplemented2F
  | 0x32 => some .unimplemented32
  | 0x37 => some .unimplemented37
  | 0x39 => some .unimplemented39
  | 0x3A => some .unimplemented3A
  | 0x3F => some .unimplemented3F
  | 0xC3 => some .unimplementedC3
  | 0xC9 => some .unimplementedC9
  | 0xCB => some .unimplementedCB
  | 0xCD => some .unimplementedCD
  | 0xD3 => some .unimplementedD3
  | 0xD9 => some .unimplementedD9
  | 0xDB => some .unimplementedDB
  | 0xDD => some .unimplementedDD
  | 0xE0 => some .unimplementedE0
  | 0xE2 => some .unimplementedE2
  | 0xE3 => some .unimplementedE3
  | 0xE4 => some .unimplementedE4
  | 0xE8 => some .unimplementedE8
  | 0xE9 => some .unimplementedE9
  | 0xEA => some .unimplementedEA
  | 0xEB => some .unimplementedEB
  | 0xEC => some .unimplementedEC
  | 0xED => some .unimplementedED
  | 0xF0 => some .unimplementedF0
  | 0xF2 => some .unimplementedF2
  | 0xF3 => some .unimplementedF3
  | 0xF4 => some .unimplementedF4
  | 0xF8 => some .unimplementedF8
  | 0xF9 => some .unimplementedF9
  | 0xFA => some .unimplementedFA
  | 0xFB => some .unimplementedFB
  | 0xFC => some .unimplementedFC
  | 0xFD => some .unimplementedFD
  | _ => none

/-- LD by its two `R8` operands; the pattern with both at HL is HALT (R72, R76). -/
def Instr.ld : Operand8 → Operand8 → Instr
  | .reg dst, .reg src => .ldRegReg dst src
  | .reg dst, .atHL => .ldRegAtHL dst
  | .atHL, .reg src => .ldAtHLReg src
  | .atHL, .atHL => .halt

/-- INC by its `R8` operand (R144, R145). -/
def Instr.inc8 : Operand8 → Instr
  | .reg r => .incReg r
  | .atHL => .incAtHL

/-- DEC by its `R8` operand (R146, R147). -/
def Instr.dec8 : Operand8 → Instr
  | .reg r => .decReg r
  | .atHL => .decAtHL

/-- LD with an 8-bit immediate by its `R8` operand (R148, R149). -/
def Instr.ldImm8 : Operand8 → Byte → Instr
  | .reg r, v => .ldRegImm r v
  | .atHL, v => .ldAtHL_D8 v

/-- The accumulator operations by their `R8` operand (R73). -/
def Instr.alu (o : AluOp) : Operand8 → Instr
  | .reg r => .aluReg o r
  | .atHL => .aluAtHL o

/-! ## The decoder (R60, R61, R76) -/

/-- What the opcode byte alone gives: the instruction, or the instruction for each value of the immediate bytes that
follow it (R61, R68). -/
inductive Template where
  /-- No immediate: length 1. -/
  | plain (i : Instr)
  /-- An 8-bit immediate: length 2. -/
  | imm8 (k : Byte → Instr)
  /-- A 16-bit immediate, low byte first: length 3. -/
  | imm16 (k : Word → Instr)

/-- How many immediate bytes follow the opcode (R61). -/
def Template.immBytes : Template → Nat
  | .plain _ => 0
  | .imm8 _ => 1
  | .imm16 _ => 2

/-- Quadrant 0 of R76 (R71); `none` is R76's `Unimplemented`. The offset byte of a jump is read as signed (R68). -/
def decodeQuadrant0 (op : Byte) : Option Template :=
  let y := fieldY op
  let z := fieldZ op
  if op = 0x00 then some (.plain .nop)
  else if z = 1 ∧ fieldQ op = 0 then some (.imm16 (Instr.ldPairImm (pair16Of (fieldP op))))
  else if z = 3 ∧ fieldQ op = 0 then some (.plain (Instr.incPair (pair16Of (fieldP op))))
  else if z = 3 ∧ fieldQ op = 1 then some (.plain (Instr.decPair (pair16Of (fieldP op))))
  else if z = 4 then some (.plain (Instr.inc8 (operand8Of y)))
  else if z = 5 then some (.plain (Instr.dec8 (operand8Of y)))
  else if z = 6 then some (.imm8 (Instr.ldImm8 (operand8Of y)))
  else if op = 0x18 then some (.imm8 fun b => .jr b.toInt)
  else if z = 0 ∧ 4 ≤ y then some (.imm8 fun b => Instr.jrCond (condOf (y - 4)) b.toInt)
  else none

/-- Quadrant 1 of R76 (R72). -/
def decodeQuadrant1 (op : Byte) : Option Template :=
  if op = 0x76 then some (.plain .halt)
  else some (.plain (Instr.ld (operand8Of (fieldY op)) (operand8Of (fieldZ op))))

/-- Quadrant 2 of R76 (R73). -/
def decodeQuadrant2 (op : Byte) : Option Template :=
  some (.plain (Instr.alu (aluOpOf (fieldY op)) (operand8Of (fieldZ op))))

/-- Quadrant 3 of R76 (R74). -/
def decodeQuadrant3 (op : Byte) : Option Template :=
  let y := fieldY op
  let z := fieldZ op
  if z = 6 then some (.imm8 (Instr.aluImm (aluOpOf y)))
  else if z = 0 ∧ y < 4 then some (.plain (Instr.retCond (condOf y)))
  else if z = 2 ∧ y < 4 then some (.imm16 (Instr.jpCond (condOf y)))
  else if z = 4 ∧ y < 4 then some (.imm16 (Instr.callCond (condOf y)))
  else if z = 7 then some (.plain (Instr.rst y))
  else if z = 1 ∧ fieldQ op = 0 then some (.plain (Instr.popPair (stackPairOf (fieldP op))))
  else if z = 5 ∧ fieldQ op = 0 then some (.plain (Instr.pushPair (stackPairOf (fieldP op))))
  else none

/-- `Dispatch` and `Decode` (R60, R76): the quadrant handlers by `op[7:6]`; `none` is `Unimplemented`. -/
def decodeImplemented (op : Byte) : Option Template :=
  match fieldX op with
  | 0 => decodeQuadrant0 op
  | 1 => decodeQuadrant1 op
  | 2 => decodeQuadrant2 op
  | _ => decodeQuadrant3 op

/-- The opcode byte's template: R76's instruction, else the byte's own row of R77, which reads no immediate. -/
def decodeOpcode (op : Byte) : Option Template :=
  match decodeImplemented op with
  | some t => some t
  | none => (Instr.unimplemented op.toNat).map .plain

/-- Why bytes are no instruction. -/
inductive DecodeError where
  /-- There is no opcode byte. -/
  | noOpcode
  /-- The opcode asks for more immediate bytes than follow it. -/
  | truncated (op : Byte)
  /-- The opcode is in neither list; no byte is (Laws/Decode.lean). -/
  | unknownOpcode (op : Byte)
  deriving DecidableEq, Repr, Inhabited

/-- An instruction and the bytes after it, or why there is none; total on any bytes. -/
inductive Decoded where
  | ok (i : Instr) (rest : List Byte)
  | error (e : DecodeError)
  deriving DecidableEq, Repr, Inhabited

/-- Complete a template with the bytes after the opcode: d8 or e is the next byte, d16 or a16 the next two, low byte
first (R44, R68). -/
def Template.complete (op : Byte) : Template → List Byte → Decoded
  | .plain i, rest => .ok i rest
  | .imm8 k, v :: rest => .ok (k v) rest
  | .imm8 _, [] => .error (.truncated op)
  | .imm16 k, lo :: hi :: rest => .ok (k (hiLo hi lo)) rest
  | .imm16 _, _ => .error (.truncated op)

/-- The decoder: the opcode byte, then its immediates (R61, R68, R76). -/
def decode : List Byte → Decoded
  | [] => .error .noOpcode
  | op :: rest =>
    match decodeOpcode op with
    | some t => t.complete op rest
    | none => .error (.unknownOpcode op)

/-- How many immediate bytes the opcode byte asks for (R61); 0 for an unimplemented byte (R77). -/
def immBytesOf (op : Byte) : Nat :=
  match decodeOpcode op with
  | some t => t.immBytes
  | none => 0

/-! ## The encoder, from the byte lists of R71–R74 and R77 -/

/-- The opcode byte of an instruction. -/
def Instr.opcode : Instr → Byte
  | .nop => 0x00
  | .ldBC_D16 _ => 0x01
  | .incBC => 0x03
  | .incB => 0x04
  | .decB => 0x05
  | .ldB_D8 _ => 0x06
  | .decBC => 0x0B
  | .incC => 0x0C
  | .decC => 0x0D
  | .ldC_D8 _ => 0x0E
  | .ldDE_D16 _ => 0x11
  | .incDE => 0x13
  | .incD => 0x14
  | .decD => 0x15
  | .ldD_D8 _ => 0x16
  | .jr _ => 0x18
  | .decDE => 0x1B
  | .incE => 0x1C
  | .decE => 0x1D
  | .ldE_D8 _ => 0x1E
  | .jrNZ _ => 0x20
  | .ldHL_D16 _ => 0x21
  | .incHL => 0x23
  | .incH => 0x24
  | .decH => 0x25
  | .ldH_D8 _ => 0x26
  | .jrZ _ => 0x28
  | .decHL => 0x2B
  | .incL => 0x2C
  | .decL => 0x2D
  | .ldL_D8 _ => 0x2E
  | .jrNC _ => 0x30
  | .ldSP_D16 _ => 0x31
  | .incSP => 0x33
  | .incAtHL => 0x34
  | .decAtHL => 0x35
  | .ldAtHL_D8 _ => 0x36
  | .jrC _ => 0x38
  | .decSP => 0x3B
  | .incA => 0x3C
  | .decA => 0x3D
  | .ldA_D8 _ => 0x3E
  | .ldB_B => 0x40
  | .ldB_C => 0x41
  | .ldB_D => 0x42
  | .ldB_E => 0x43
  | .ldB_H => 0x44
  | .ldB_L => 0x45
  | .ldB_AtHL => 0x46
  | .ldB_A => 0x47
  | .ldC_B => 0x48
  | .ldC_C => 0x49
  | .ldC_D => 0x4A
  | .ldC_E => 0x4B
  | .ldC_H => 0x4C
  | .ldC_L => 0x4D
  | .ldC_AtHL => 0x4E
  | .ldC_A => 0x4F
  | .ldD_B => 0x50
  | .ldD_C => 0x51
  | .ldD_D => 0x52
  | .ldD_E => 0x53
  | .ldD_H => 0x54
  | .ldD_L => 0x55
  | .ldD_AtHL => 0x56
  | .ldD_A => 0x57
  | .ldE_B => 0x58
  | .ldE_C => 0x59
  | .ldE_D => 0x5A
  | .ldE_E => 0x5B
  | .ldE_H => 0x5C
  | .ldE_L => 0x5D
  | .ldE_AtHL => 0x5E
  | .ldE_A => 0x5F
  | .ldH_B => 0x60
  | .ldH_C => 0x61
  | .ldH_D => 0x62
  | .ldH_E => 0x63
  | .ldH_H => 0x64
  | .ldH_L => 0x65
  | .ldH_AtHL => 0x66
  | .ldH_A => 0x67
  | .ldL_B => 0x68
  | .ldL_C => 0x69
  | .ldL_D => 0x6A
  | .ldL_E => 0x6B
  | .ldL_H => 0x6C
  | .ldL_L => 0x6D
  | .ldL_AtHL => 0x6E
  | .ldL_A => 0x6F
  | .ldAtHL_B => 0x70
  | .ldAtHL_C => 0x71
  | .ldAtHL_D => 0x72
  | .ldAtHL_E => 0x73
  | .ldAtHL_H => 0x74
  | .ldAtHL_L => 0x75
  | .halt => 0x76
  | .ldAtHL_A => 0x77
  | .ldA_B => 0x78
  | .ldA_C => 0x79
  | .ldA_D => 0x7A
  | .ldA_E => 0x7B
  | .ldA_H => 0x7C
  | .ldA_L => 0x7D
  | .ldA_AtHL => 0x7E
  | .ldA_A => 0x7F
  | .addA_B => 0x80
  | .addA_C => 0x81
  | .addA_D => 0x82
  | .addA_E => 0x83
  | .addA_H => 0x84
  | .addA_L => 0x85
  | .addA_AtHL => 0x86
  | .addA_A => 0x87
  | .adcA_B => 0x88
  | .adcA_C => 0x89
  | .adcA_D => 0x8A
  | .adcA_E => 0x8B
  | .adcA_H => 0x8C
  | .adcA_L => 0x8D
  | .adcA_AtHL => 0x8E
  | .adcA_A => 0x8F
  | .subA_B => 0x90
  | .subA_C => 0x91
  | .subA_D => 0x92
  | .subA_E => 0x93
  | .subA_H => 0x94
  | .subA_L => 0x95
  | .subA_AtHL => 0x96
  | .subA_A => 0x97
  | .sbcA_B => 0x98
  | .sbcA_C => 0x99
  | .sbcA_D => 0x9A
  | .sbcA_E => 0x9B
  | .sbcA_H => 0x9C
  | .sbcA_L => 0x9D
  | .sbcA_AtHL => 0x9E
  | .sbcA_A => 0x9F
  | .andA_B => 0xA0
  | .andA_C => 0xA1
  | .andA_D => 0xA2
  | .andA_E => 0xA3
  | .andA_H => 0xA4
  | .andA_L => 0xA5
  | .andA_AtHL => 0xA6
  | .andA_A => 0xA7
  | .xorA_B => 0xA8
  | .xorA_C => 0xA9
  | .xorA_D => 0xAA
  | .xorA_E => 0xAB
  | .xorA_H => 0xAC
  | .xorA_L => 0xAD
  | .xorA_AtHL => 0xAE
  | .xorA_A => 0xAF
  | .orA_B => 0xB0
  | .orA_C => 0xB1
  | .orA_D => 0xB2
  | .orA_E => 0xB3
  | .orA_H => 0xB4
  | .orA_L => 0xB5
  | .orA_AtHL => 0xB6
  | .orA_A => 0xB7
  | .cpA_B => 0xB8
  | .cpA_C => 0xB9
  | .cpA_D => 0xBA
  | .cpA_E => 0xBB
  | .cpA_H => 0xBC
  | .cpA_L => 0xBD
  | .cpA_AtHL => 0xBE
  | .cpA_A => 0xBF
  | .retNZ => 0xC0
  | .popBC => 0xC1
  | .jpNZ _ => 0xC2
  | .callNZ _ => 0xC4
  | .pushBC => 0xC5
  | .addA_D8 _ => 0xC6
  | .rst00 => 0xC7
  | .retZ => 0xC8
  | .jpZ _ => 0xCA
  | .callZ _ => 0xCC
  | .adcA_D8 _ => 0xCE
  | .rst08 => 0xCF
  | .retNC => 0xD0
  | .popDE => 0xD1
  | .jpNC _ => 0xD2
  | .callNC _ => 0xD4
  | .pushDE => 0xD5
  | .subA_D8 _ => 0xD6
  | .rst10 => 0xD7
  | .retC => 0xD8
  | .jpC _ => 0xDA
  | .callC _ => 0xDC
  | .sbcA_D8 _ => 0xDE
  | .rst18 => 0xDF
  | .popHL => 0xE1
  | .pushHL => 0xE5
  | .andA_D8 _ => 0xE6
  | .rst20 => 0xE7
  | .xorA_D8 _ => 0xEE
  | .rst28 => 0xEF
  | .popAF => 0xF1
  | .pushAF => 0xF5
  | .orA_D8 _ => 0xF6
  | .rst30 => 0xF7
  | .cpA_D8 _ => 0xFE
  | .rst38 => 0xFF
  | .unimplemented02 => 0x02
  | .unimplemented07 => 0x07
  | .unimplemented08 => 0x08
  | .unimplemented09 => 0x09
  | .unimplemented0A => 0x0A
  | .unimplemented0F => 0x0F
  | .unimplemented10 => 0x10
  | .unimplemented12 => 0x12
  | .unimplemented17 => 0x17
  | .unimplemented19 => 0x19
  | .unimplemented1A => 0x1A
  | .unimplemented1F => 0x1F
  | .unimplemented22 => 0x22
  | .unimplemented27 => 0x27
  | .unimplemented29 => 0x29
  | .unimplemented2A => 0x2A
  | .unimplemented2F => 0x2F
  | .unimplemented32 => 0x32
  | .unimplemented37 => 0x37
  | .unimplemented39 => 0x39
  | .unimplemented3A => 0x3A
  | .unimplemented3F => 0x3F
  | .unimplementedC3 => 0xC3
  | .unimplementedC9 => 0xC9
  | .unimplementedCB => 0xCB
  | .unimplementedCD => 0xCD
  | .unimplementedD3 => 0xD3
  | .unimplementedD9 => 0xD9
  | .unimplementedDB => 0xDB
  | .unimplementedDD => 0xDD
  | .unimplementedE0 => 0xE0
  | .unimplementedE2 => 0xE2
  | .unimplementedE3 => 0xE3
  | .unimplementedE4 => 0xE4
  | .unimplementedE8 => 0xE8
  | .unimplementedE9 => 0xE9
  | .unimplementedEA => 0xEA
  | .unimplementedEB => 0xEB
  | .unimplementedEC => 0xEC
  | .unimplementedED => 0xED
  | .unimplementedF0 => 0xF0
  | .unimplementedF2 => 0xF2
  | .unimplementedF3 => 0xF3
  | .unimplementedF4 => 0xF4
  | .unimplementedF8 => 0xF8
  | .unimplementedF9 => 0xF9
  | .unimplementedFA => 0xFA
  | .unimplementedFB => 0xFB
  | .unimplementedFC => 0xFC
  | .unimplementedFD => 0xFD

/-- The immediate bytes that follow the opcode: none, d8, the offset as an 8-bit two's-complement number, or the low
byte and then the high byte of d16 or a16 (R44, R61, R68). -/
def Instr.immediates : Instr → List Byte
  | .ldBC_D16 d16 => [loByte d16, hiByte d16]
  | .ldB_D8 d8 => [d8]
  | .ldC_D8 d8 => [d8]
  | .ldDE_D16 d16 => [loByte d16, hiByte d16]
  | .ldD_D8 d8 => [d8]
  | .jr e => [BitVec.ofInt 8 e]
  | .ldE_D8 d8 => [d8]
  | .jrNZ e => [BitVec.ofInt 8 e]
  | .ldHL_D16 d16 => [loByte d16, hiByte d16]
  | .ldH_D8 d8 => [d8]
  | .jrZ e => [BitVec.ofInt 8 e]
  | .ldL_D8 d8 => [d8]
  | .jrNC e => [BitVec.ofInt 8 e]
  | .ldSP_D16 d16 => [loByte d16, hiByte d16]
  | .ldAtHL_D8 d8 => [d8]
  | .jrC e => [BitVec.ofInt 8 e]
  | .ldA_D8 d8 => [d8]
  | .jpNZ a16 => [loByte a16, hiByte a16]
  | .callNZ a16 => [loByte a16, hiByte a16]
  | .addA_D8 d8 => [d8]
  | .jpZ a16 => [loByte a16, hiByte a16]
  | .callZ a16 => [loByte a16, hiByte a16]
  | .adcA_D8 d8 => [d8]
  | .jpNC a16 => [loByte a16, hiByte a16]
  | .callNC a16 => [loByte a16, hiByte a16]
  | .subA_D8 d8 => [d8]
  | .jpC a16 => [loByte a16, hiByte a16]
  | .callC a16 => [loByte a16, hiByte a16]
  | .sbcA_D8 d8 => [d8]
  | .andA_D8 d8 => [d8]
  | .xorA_D8 d8 => [d8]
  | .orA_D8 d8 => [d8]
  | .cpA_D8 d8 => [d8]
  | .nop | .incBC | .incB | .decB | .decBC | .incC | .decC | .incDE | .incD | .decD | .decDE | .incE | .decE
  | .incHL | .incH | .decH | .decHL | .incL | .decL | .incSP | .incAtHL | .decAtHL | .decSP | .incA | .decA
  | .ldB_B | .ldB_C | .ldB_D | .ldB_E | .ldB_H | .ldB_L | .ldB_AtHL | .ldB_A | .ldC_B | .ldC_C | .ldC_D
  | .ldC_E | .ldC_H | .ldC_L | .ldC_AtHL | .ldC_A | .ldD_B | .ldD_C | .ldD_D | .ldD_E | .ldD_H | .ldD_L
  | .ldD_AtHL | .ldD_A | .ldE_B | .ldE_C | .ldE_D | .ldE_E | .ldE_H | .ldE_L | .ldE_AtHL | .ldE_A | .ldH_B
  | .ldH_C | .ldH_D | .ldH_E | .ldH_H | .ldH_L | .ldH_AtHL | .ldH_A | .ldL_B | .ldL_C | .ldL_D | .ldL_E
  | .ldL_H | .ldL_L | .ldL_AtHL | .ldL_A | .ldAtHL_B | .ldAtHL_C | .ldAtHL_D | .ldAtHL_E | .ldAtHL_H
  | .ldAtHL_L | .halt | .ldAtHL_A | .ldA_B | .ldA_C | .ldA_D | .ldA_E | .ldA_H | .ldA_L | .ldA_AtHL | .ldA_A
  | .addA_B | .addA_C | .addA_D | .addA_E | .addA_H | .addA_L | .addA_AtHL | .addA_A | .adcA_B | .adcA_C
  | .adcA_D | .adcA_E | .adcA_H | .adcA_L | .adcA_AtHL | .adcA_A | .subA_B | .subA_C | .subA_D | .subA_E
  | .subA_H | .subA_L | .subA_AtHL | .subA_A | .sbcA_B | .sbcA_C | .sbcA_D | .sbcA_E | .sbcA_H | .sbcA_L
  | .sbcA_AtHL | .sbcA_A | .andA_B | .andA_C | .andA_D | .andA_E | .andA_H | .andA_L | .andA_AtHL | .andA_A
  | .xorA_B | .xorA_C | .xorA_D | .xorA_E | .xorA_H | .xorA_L | .xorA_AtHL | .xorA_A | .orA_B | .orA_C
  | .orA_D | .orA_E | .orA_H | .orA_L | .orA_AtHL | .orA_A | .cpA_B | .cpA_C | .cpA_D | .cpA_E | .cpA_H
  | .cpA_L | .cpA_AtHL | .cpA_A | .retNZ | .popBC | .pushBC | .rst00 | .retZ | .rst08 | .retNC | .popDE
  | .pushDE | .rst10 | .retC | .rst18 | .popHL | .pushHL | .rst20 | .rst28 | .popAF | .pushAF | .rst30
  | .rst38 | .unimplemented02 | .unimplemented07 | .unimplemented08 | .unimplemented09 | .unimplemented0A
  | .unimplemented0F | .unimplemented10 | .unimplemented12 | .unimplemented17 | .unimplemented19
  | .unimplemented1A | .unimplemented1F | .unimplemented22 | .unimplemented27 | .unimplemented29
  | .unimplemented2A | .unimplemented2F | .unimplemented32 | .unimplemented37 | .unimplemented39
  | .unimplemented3A | .unimplemented3F | .unimplementedC3 | .unimplementedC9 | .unimplementedCB
  | .unimplementedCD | .unimplementedD3 | .unimplementedD9 | .unimplementedDB | .unimplementedDD
  | .unimplementedE0 | .unimplementedE2 | .unimplementedE3 | .unimplementedE4 | .unimplementedE8
  | .unimplementedE9 | .unimplementedEA | .unimplementedEB | .unimplementedEC | .unimplementedED
  | .unimplementedF0 | .unimplementedF2 | .unimplementedF3 | .unimplementedF4 | .unimplementedF8
  | .unimplementedF9 | .unimplementedFA | .unimplementedFB | .unimplementedFC | .unimplementedFD => []

/-- The bytes of an instruction, opcode first. -/
def encode (i : Instr) : List Byte := i.opcode :: i.immediates

/-- The instruction's length in bytes (R61). -/
def Instr.length (i : Instr) : Nat := (encode i).length

/-! ## The host's view of an opcode-table row -/

/-- The three bytes of a word `w` of which `nbits` bits count, first byte least significant; 3 is the longest
instruction (R61). -/
def tableBytes (nbits w : Nat) : List Byte :=
  let v := w % 2 ^ nbits
  [BitVec.ofNat 8 v, BitVec.ofNat 8 (v / 256), BitVec.ofNat 8 (v / 65536)]

/-- What the decoder reads from an opcode-table word: the bytes as memory holds them, first byte lowest. -/
def decodeTableWord (nbits w : Nat) : Option Instr :=
  match decode (tableBytes nbits w) with
  | .ok i _ => some i
  | .error _ => none

end Sys2Proof
end

