-- ==== Sys2Proof/Config.lean ====
section
/-! DEFINITION. The parameters of the model (00_scope.md R7): what an implementation of this hardware fixes and no
step changes. State holds one `Config` (log entry 1), so that every statement holds for every admitted value. -/

namespace Sys2Proof

/-- `CYCLE_TABLE` (70_reset_and_hazards.md R330): the machine-cycle cost of each instruction form. -/
structure CycleTable where
  nop : Nat
  ldPairImm : Nat
  incDecPair : Nat
  incDecReg : Nat
  incDecAtHL : Nat
  ldRegImm : Nat
  ldAtHLImm : Nat
  jr : Nat
  jrTaken : Nat
  jrNotTaken : Nat
  ldRegReg : Nat
  ldRegAtHL : Nat
  ldAtHLReg : Nat
  halt : Nat
  aluReg : Nat
  aluAtHL : Nat
  aluImm : Nat
  retTaken : Nat
  retNotTaken : Nat
  jpTaken : Nat
  jpNotTaken : Nat
  callTaken : Nat
  callNotTaken : Nat
  rst : Nat
  push : Nat
  pop : Nat
  deriving DecidableEq, Repr, Inhabited

/-- The default `CYCLE_TABLE`, the values of R330 (the spec's decision D9; log entry 9). -/
def CycleTable.reference : CycleTable where
  nop := 1
  ldPairImm := 3
  incDecPair := 2
  incDecReg := 1
  incDecAtHL := 3
  ldRegImm := 2
  ldAtHLImm := 3
  jr := 3
  jrTaken := 3
  jrNotTaken := 2
  ldRegReg := 1
  ldRegAtHL := 2
  ldAtHLReg := 2
  halt := 1
  aluReg := 1
  aluAtHL := 2
  aluImm := 2
  retTaken := 5
  retNotTaken := 2
  jpTaken := 4
  jpNotTaken := 3
  callTaken := 6
  callNotTaken := 3
  rst := 4
  push := 4
  pop := 3

/-- The parameters of R7 that instructions depend on. -/
structure Config where
  /-- `MEM_SIZE`: the number of addressable bytes, 1..65536 (R7, D23). -/
  memSize : Nat
  /-- `POP_AF_MASKS_F`: whether POP AF clears F bits 3..0 (R7, D13). -/
  popAfMasksF : Bool
  /-- `CYCLE_TABLE` (R330, D9). -/
  cycleTable : CycleTable
  deriving DecidableEq, Repr, Inhabited

/-- The reference configuration: `MEM_SIZE` 8192, `POP_AF_MASKS_F` true, the default `CYCLE_TABLE` (R7). -/
def Config.reference : Config where
  memSize := 8192
  popAfMasksF := true
  cycleTable := CycleTable.reference

/-- The values R7 admits: `MEM_SIZE` lies in 1..65536. -/
abbrev Config.wellFormed (c : Config) : Prop := 1 ≤ c.memSize ∧ c.memSize ≤ 65536

/-- `LOAD_BASE`, the address of `IMAGE[0]` (R7, the spec's decision D5). -/
def Config.loadBase : Nat := 0

end Sys2Proof
end

