-- ==== Sys2Proof/Machine/State.lean ====
section
/-! DEFINITION. The state of the block and of its Memory (10_state.md, 20_memory.md R41), as plain data, and its
value after reset (R35). The operations on it stand in Ops.lean, Flags.lean and Operands.lean. -/

namespace Sys2Proof.Machine

/-- Memory (R41): the listed bytes as (address, byte) pairs. An address that is not listed holds 0x00, the reset
contents (R35, R43), so a listed byte is never 0x00 and addresses rise (`Memory.wf`). -/
abbrev Memory := List Host.Cell

/-- The canonical form: addresses strictly rising, no listed byte 0x00. -/
abbrev Memory.wf (m : Memory) : Prop :=
  m.Pairwise (fun c d => c.1 < d.1) ∧ ∀ c ∈ m, c.2 ≠ 0

/-- The direction of a memory access (R302). -/
inductive Access where
  | read
  | write
  deriving DecidableEq, Repr, Inhabited

/-- The fault kinds with what each records (60_exceptions.md R300). A fault ends the run (R304). -/
inductive Fault where
  /-- R301: the byte `op` fetched at `a` is one of the 50 of R77. Raised by the meanings of the 50 unimplemented
  rows. Safe: the spec gives those bytes no other effect. -/
  | unimplementedOpcode (op : Byte) (a : Word)
  /-- R302: an access to an address at or above `MEM_SIZE`. Raised by every load, store and fetch. Safe: the spec
  names this stop. -/
  | memoryOutOfBounds (addr : Word) (dir : Access)
  /-- R303: a field names no register. Raised by nothing, since every selector is total (R79); kept because R300
  lists it. Safe. -/
  | invalidSelector
  deriving DecidableEq, Repr, Inhabited

/-- Why an instruction has no meaning. -/
inductive Refusal where
  /-- An arm of `exec` that has no meaning yet. Raised by no arm of this model. Safe. -/
  | notModelled (mnemonic : String)
  /-- The fetched bytes are no instruction. Raised by `fetchThen` on no state, since all 256 bytes decode
  (Laws/Decode.lean). Safe. -/
  | undecodable
  deriving DecidableEq, Repr, Inhabited

/-- The state. Registers: R20; run control: R31–R33; Memory: R41. `instrBound` and `cfg` are the run's parameters
(R36), held here so that a step is a function of the state alone; no step changes them (log entries 1, 2). -/
structure State where
  /-- The accumulator (R20). -/
  a : Byte
  /-- The flag register: Z, N, H, C at bits 7, 6, 5, 4 (R25). -/
  f : Byte
  /-- Register B (R20). -/
  b : Byte
  /-- Register C (R20). -/
  c : Byte
  /-- Register D (R20). -/
  d : Byte
  /-- Register E (R20). -/
  e : Byte
  /-- Register H (R20). -/
  h : Byte
  /-- Register L (R20). -/
  l : Byte
  /-- The stack pointer (R29). -/
  sp : Word
  /-- The program counter: while an instruction executes, the address of its opcode byte (R30). -/
  pc : Word
  /-- The halt flag (R31). -/
  halted : Bool
  /-- The cycle counter, 64 bits (R32). -/
  cycles : BitVec 64
  /-- The fault record (R33). -/
  fault : Option Fault
  /-- Memory, in canonical form (R41). -/
  mem : Memory
  /-- `INSTR_BOUND`: the number of bytes of the loaded image, 0 when none is loaded yet (R7, R321; log entry 2). -/
  instrBound : Nat
  /-- The parameters `MEM_SIZE`, `POP_AF_MASKS_F` and `CYCLE_TABLE` (R7; log entry 1). -/
  cfg : Config
  deriving DecidableEq, Repr, Inhabited

/-- The state right after reset (R35, R320): every register zero, not halted, the counter zero, no fault record,
Memory zero everywhere. No image is loaded: `State.resetWith` (Boot.lean) is the reset with one. -/
def State.reset : State where
  a := 0x00
  f := 0x00
  b := 0x00
  c := 0x00
  d := 0x00
  e := 0x00
  h := 0x00
  l := 0x00
  sp := 0x0000
  pc := 0x0000
  halted := false
  cycles := 0
  fault := none
  mem := []
  instrBound := 0
  cfg := Config.reference

/-- What a step or a meaning answers. -/
abbrev Result := Host.Outcome State Fault Refusal

end Sys2Proof.Machine
end

