-- ==== Sys2Proof/Machine/Ops.lean ====
section
/-! DEFINITION. The named operations over memory and the run: reading and writing one byte, the bounds check, raising
a fault, the stack primitives, and completing an instruction. An operation that may fault takes what is to be done
with its answer (`k`), so that nothing after a fault runs (R13). -/

namespace Sys2Proof.Machine

/-! ## Memory as data -/

/-- The byte at an address; 0x00 where nothing is listed (R35, R43). -/
def Memory.read (m : Memory) (addr : Nat) : Byte :=
  match m with
  | [] => 0x00
  | (x, v) :: rest => if addr = x then v else Memory.read rest addr

/-- `mem[addr] <- v`, keeping the canonical form: 0x00 is written by removing the entry. -/
def Memory.write (m : Memory) (addr : Nat) (v : Byte) : Memory :=
  match m with
  | [] => if v = 0x00 then [] else [(addr, v)]
  | (x, w) :: rest =>
    if addr < x then
      if v = 0x00 then (x, w) :: rest else (addr, v) :: (x, w) :: rest
    else if addr = x then
      if v = 0x00 then rest else (addr, v) :: rest
    else (x, w) :: Memory.write rest addr v

/-! ## Faults -/

/-- `raise Fault(kind, info)` (R13, R300, R304): the run ends and the record is the fault's own reason. A fault
transfers control nowhere: no vector, no saved pc, no mode change (R307), and there is no return from one (R308). -/
def raise (r : Fault) : Result := .fault r

/-! ## The memory port (R40, R42) -/

/-- `addr < MEM_SIZE` (R42). -/
def State.inBounds (s : State) (addr : Word) : Bool := decide (addr.toNat < s.cfg.memSize)

/-- The byte at an address, without the bounds check. -/
def State.peek (s : State) (addr : Word) : Byte := s.mem.read addr.toNat

/-- `mem[addr] <- v`, without the bounds check. -/
def State.poke (s : State) (addr : Word) (v : Byte) : State := { s with mem := s.mem.write addr.toNat v }

/-- `MemRead(addr, 1)` (R42), then `k` on the byte. -/
def State.loadThen (s : State) (addr : Word) (k : Byte → Result) : Result :=
  if s.inBounds addr then k (s.peek addr) else raise (.memoryOutOfBounds addr .read)

/-- `MemWrite(addr, 1, v)` (R42), then `k` on the state. -/
def State.storeThen (s : State) (addr : Word) (v : Byte) (k : State → Result) : Result :=
  if s.inBounds addr then k (s.poke addr v) else raise (.memoryOutOfBounds addr .write)

/-- `n` bytes from `addr` up, read in address order (R56); addresses wrap modulo 2^16 (R68). -/
def State.loadListThen (s : State) (addr : Word) (n : Nat) (k : List Byte → Result) : Result :=
  match n with
  | 0 => k []
  | n + 1 => s.loadThen addr fun v => s.loadListThen (addr + 1) n fun vs => k (v :: vs)

/-! ## The stack primitives (R47) -/

/-- One byte of `Push16`: `SP <- (SP - 1) mod 2^16`, then the byte to the new SP. -/
def State.pushByteThen (s : State) (v : Byte) (k : State → Result) : Result :=
  { s with sp := s.sp - 1 }.storeThen (s.sp - 1) v k

/-- `Push16(v)`: the high byte to `SP - 1`, then the low byte to `SP - 2` (R45, R47). -/
def State.push16Then (s : State) (v : Word) (k : State → Result) : Result :=
  s.pushByteThen (hiByte v) fun t => t.pushByteThen (loByte v) k

/-- One byte of `Pop16`: the byte at SP, then `SP <- (SP + 1) mod 2^16`. -/
def State.popByteThen (s : State) (k : Byte → State → Result) : Result :=
  s.loadThen s.sp fun v => k v { s with sp := s.sp + 1 }

/-- `Pop16()`: the low byte from `SP`, then the high byte from `SP + 1` (R45, R47). -/
def State.pop16Then (s : State) (k : Word → State → Result) : Result :=
  s.popByteThen fun lo t => t.popByteThen fun hi u => k (hiLo hi lo) u

/-! ## Completing an instruction (R122, R124, R126) -/

/-- `PC <- next`, `cycles <- (cycles + cost) mod 2^64`. -/
def State.complete (s : State) (next : Word) (cost : Nat) : State :=
  { s with pc := next, cycles := s.cycles + BitVec.ofNat 64 cost }

/-- Completing an instruction of `len` bytes that transfers control nowhere: `next = (a + len) mod 2^16` (R124). -/
def State.advance (s : State) (len : Nat) (cost : Nat) : State :=
  s.complete (s.pc + BitVec.ofNat 16 len) cost

end Sys2Proof.Machine
end

