-- ==== Sys2Proof/Machine/Boot.lean ====
section
/-! DEFINITION. Reset with an image (70_reset_and_hazards.md R320, R321): the host supplies the parameters and IMAGE
before a run (R315). -/

namespace Sys2Proof.Machine

/-- Memory with an image stored from `addr` up: `mem[addr + i] = IMAGE[i]` (R321). -/
def Memory.load (m : Memory) (addr : Nat) : List Byte → Memory
  | [] => m
  | v :: vs => Memory.load (m.write addr v) (addr + 1) vs

/-- The state after an image is loaded over a state's memory at `LOAD_BASE`, with `INSTR_BOUND` its length (R321). -/
def State.loadImage (s : State) (image : List Byte) : State :=
  { s with mem := s.mem.load Config.loadBase image, instrBound := image.length }

/-- Reset with parameters and an image (R35, R320, R321). It refuses, by `none`, parameters or an image R7 and R321 do
not admit: `1 ≤ MEM_SIZE ≤ 65536` and `1 ≤ N ≤ MEM_SIZE` (93_implementation_defined.md U10, U11). -/
def State.resetWith (cfg : Config) (image : List Byte) : Option State :=
  if cfg.wellFormed ∧ 1 ≤ image.length ∧ image.length ≤ cfg.memSize then
    some ({ State.reset with cfg := cfg }.loadImage image)
  else none

end Sys2Proof.Machine
end

