-- ==== Sys2Proof/Machine/Flags.lean ====
section
/-! DEFINITION. The ALU and flag engine (40_alu_flag_engine.md): pure functions from operands and a carry-in to a
result and a flag byte (R100). Each is computed on exact integers and narrowed at the end (R113). -/

namespace Sys2Proof.Machine

/-- `FLAGS(Z, N, H, C)` = `Z*0x80 + N*0x40 + H*0x20 + C*0x10` (10_state.md R25). -/
def flagsByte (z n h c : Bool) : Byte :=
  BitVec.ofNat 8 (z.toNat * 0x80 + n.toNat * 0x40 + h.toNat * 0x20 + c.toNat * 0x10)

/-- `flag.Z`, bit 7 of the flag byte (R25). -/
def flagZ (f : Byte) : Bool := f.getLsbD 7

/-- `flag.N`, bit 6 (R25). -/
def flagN (f : Byte) : Bool := f.getLsbD 6

/-- `flag.H`, bit 5 (R25). -/
def flagH (f : Byte) : Bool := f.getLsbD 5

/-- `flag.C`, bit 4 (R25). -/
def flagC (f : Byte) : Bool := f.getLsbD 4

/-- The low nibble of an operand, `v & 0x0F`, as a number. -/
def lowNibble (v : Byte) : Nat := (v &&& 0x0F).toNat

/-- What an engine function returns (R100). -/
structure AluResult where
  res : Byte
  flags : Byte
  deriving DecidableEq, Repr, Inhabited

/-- `add(a, b, cin)` (R101). -/
def aluAdd (a b : Byte) (cin : Bool) : AluResult :=
  let sum := a.toNat + b.toNat + cin.toNat
  let res := BitVec.ofNat 8 sum
  { res := res
    flags := flagsByte (res == 0) false (decide (0x0F < lowNibble a + lowNibble b + cin.toNat)) (decide (0xFF < sum)) }

/-- `sub(a, b, cin)` (R102); the difference is the exact integer. -/
def aluSub (a b : Byte) (cin : Bool) : AluResult :=
  let diff : Int := (a.toNat : Int) - b.toNat - cin.toNat
  let res := BitVec.ofInt 8 diff
  { res := res
    flags := flagsByte (res == 0) true (decide (lowNibble a < lowNibble b + cin.toNat))
      (decide (a.toNat < b.toNat + cin.toNat)) }

/-- `and(a, b)` (R103): H is set. -/
def aluAnd (a b : Byte) : AluResult :=
  { res := a &&& b, flags := flagsByte (a &&& b == 0) false true false }

/-- `or(a, b)` (R104). -/
def aluOr (a b : Byte) : AluResult :=
  { res := a ||| b, flags := flagsByte (a ||| b == 0) false false false }

/-- `xor(a, b)` (R105). -/
def aluXor (a b : Byte) : AluResult :=
  { res := a ^^^ b, flags := flagsByte (a ^^^ b == 0) false false false }

/-- `compare(a, b)` (R106): `a` unchanged, the flags of `sub(a, b, 0)`. -/
def aluCompare (a b : Byte) : AluResult :=
  { res := a, flags := (aluSub a b false).flags }

/-- `inc8(v, Cold)` (R107; the spec's decision D14, log entry 11): Z, N, H as in `add(v, 1, 0)`, C kept. -/
def inc8 (v : Byte) (cOld : Bool) : AluResult :=
  let r := aluAdd v 1 false
  { res := r.res, flags := flagsByte (flagZ r.flags) false (flagH r.flags) cOld }

/-- `dec8(v, Cold)` (R108; the spec's decision D14, log entry 11): Z, N, H as in `sub(v, 1, 0)`, C kept. -/
def dec8 (v : Byte) (cOld : Bool) : AluResult :=
  let r := aluSub v 1 false
  { res := r.res, flags := flagsByte (flagZ r.flags) true (flagH r.flags) cOld }

/-- `inc16(v)` (R109): no flag byte. -/
def inc16 (v : Word) : Word := v + 1

/-- `dec16(v)` (R109): no flag byte. -/
def dec16 (v : Word) : Word := v - 1

/-- `cond(cc)` on the flag byte (R110; 90_conflicts.md C7). -/
def condHolds (f : Byte) : Cond → Bool
  | .nz => !flagZ f
  | .z => flagZ f
  | .nc => !flagC f
  | .c => flagC f

/-- The operation the field `o` selects, on A, the source byte and the current carry (R111). -/
def aluApply (o : AluOp) (a b : Byte) (carry : Bool) : AluResult :=
  match o with
  | .add => aluAdd a b false
  | .adc => aluAdd a b carry
  | .sub => aluSub a b false
  | .sbc => aluSub a b carry
  | .and => aluAnd a b
  | .xor => aluXor a b
  | .or => aluOr a b
  | .cp => aluCompare a b

end Sys2Proof.Machine
end

