-- ==== Sys2Proof/Machine/Operands.lean ====
section
/-! DEFINITION. The operand forms: the register file's reads and writes by selector (10_state.md R21, R24;
30_encoding.md R64–R66), and the flag register as the engine's callers use it (R27, R111). The memory operand of `R8`
is a load or a store at HL, so its uses stand in the quadrant files. -/

namespace Sys2Proof.Machine

/-! ## 8-bit registers -/

/-- `R8[s]` for a register (R64). -/
def State.get8 (s : State) : Reg8 → Byte
  | .b => s.b
  | .c => s.c
  | .d => s.d
  | .e => s.e
  | .h => s.h
  | .l => s.l
  | .a => s.a

/-- `R8[s] <- v` for a register (R64). -/
def State.set8 (s : State) (r : Reg8) (v : Byte) : State :=
  match r with
  | .b => { s with b := v }
  | .c => { s with c := v }
  | .d => { s with d := v }
  | .e => { s with e := v }
  | .h => { s with h := v }
  | .l => { s with l := v }
  | .a => { s with a := v }

/-! ## Pairs: views over two 8-bit registers, the first-named one high (R21) -/

/-- BC as a 16-bit value. -/
def State.bc (s : State) : Word := hiLo s.b s.c

/-- DE as a 16-bit value. -/
def State.de (s : State) : Word := hiLo s.d s.e

/-- HL as a 16-bit value, the address of the memory operand. -/
def State.hl (s : State) : Word := hiLo s.h s.l

/-- AF as a 16-bit value. -/
def State.af (s : State) : Word := hiLo s.a s.f

/-- `R16[p]` (R65). -/
def State.get16 (s : State) : Pair16 → Word
  | .bc => s.bc
  | .de => s.de
  | .hl => s.hl
  | .sp => s.sp

/-- `R16[p] <- v` (R21, R65). -/
def State.set16 (s : State) (p : Pair16) (v : Word) : State :=
  match p with
  | .bc => { s with b := hiByte v, c := loByte v }
  | .de => { s with d := hiByte v, e := loByte v }
  | .hl => { s with h := hiByte v, l := loByte v }
  | .sp => { s with sp := v }

/-- `R16S[p]` (R66). -/
def State.getStackPair (s : State) : StackPair → Word
  | .bc => s.bc
  | .de => s.de
  | .hl => s.hl
  | .af => s.af

/-- `R16S[p] <- v` (R21, R66). -/
def State.setStackPair (s : State) (p : StackPair) (v : Word) : State :=
  match p with
  | .bc => { s with b := hiByte v, c := loByte v }
  | .de => { s with d := hiByte v, e := loByte v }
  | .hl => { s with h := hiByte v, l := loByte v }
  | .af => { s with a := hiByte v, f := loByte v }

/-- The value POP writes to a pair: POP AF clears bits 3..0 of the low byte, F's, when `POP_AF_MASKS_F` (R215; the
spec's decision D13, log entry 10); every other POP writes what it popped (R214). -/
def State.popped (s : State) (p : StackPair) (v : Word) : Word :=
  match p with
  | .af => if s.cfg.popAfMasksF then hiLo (hiByte v) (loByte v &&& 0xF0) else v
  | _ => v

/-! ## The accumulator operations and F -/

/-- Write back an accumulator operation with source byte `v`: F always, A unless the operation is CP (R111). -/
def State.applyAlu (s : State) (o : AluOp) (v : Byte) : State :=
  let r := aluApply o s.a v (flagC s.f)
  match o with
  | .cp => { s with f := r.flags }
  | _ => { s with a := r.res, f := r.flags }

end Sys2Proof.Machine
end

