-- ==== Sys2Proof/Machine/Quadrant0.lean ====
section
/-! DEFINITION. Quadrant 0 (42_quadrant0.md): NOP, the 16-bit immediate loads, the increments and decrements, the
8-bit immediate loads and the relative jumps. First the form each rule describes, over its operands; then one meaning
per opcode byte. An immediate has been read by the fetch (Fetch.lean), before anything here runs (R56). -/

namespace Sys2Proof.Machine

/-- R140: NOP. -/
def doNop (s : State) : Result := .next (s.advance 1 s.cfg.cycleTable.nop)

/-- R141: LD rr,d16. -/
def doLdPairImm (p : Pair16) (d16 : Word) (s : State) : Result :=
  .next ((s.set16 p d16).advance 3 s.cfg.cycleTable.ldPairImm)

/-- R142: INC rr, no flag written (R109; the spec's decision D15, log entry 11). -/
def doIncPair (p : Pair16) (s : State) : Result :=
  .next ((s.set16 p (inc16 (s.get16 p))).advance 1 s.cfg.cycleTable.incDecPair)

/-- R143: DEC rr, no flag written (R109; the spec's decision D15, log entry 11). -/
def doDecPair (p : Pair16) (s : State) : Result :=
  .next ((s.set16 p (dec16 (s.get16 p))).advance 1 s.cfg.cycleTable.incDecPair)

/-- R144: INC r. -/
def doIncReg (r : Reg8) (s : State) : Result :=
  let x := inc8 (s.get8 r) (flagC s.f)
  .next ({ s.set8 r x.res with f := x.flags }.advance 1 s.cfg.cycleTable.incDecReg)

/-- R145: INC (HL), the read before the write. -/
def doIncAtHL (s : State) : Result :=
  s.loadThen s.hl fun v =>
    let x := inc8 v (flagC s.f)
    s.storeThen s.hl x.res fun t => .next ({ t with f := x.flags }.advance 1 s.cfg.cycleTable.incDecAtHL)

/-- R146: DEC r. -/
def doDecReg (r : Reg8) (s : State) : Result :=
  let x := dec8 (s.get8 r) (flagC s.f)
  .next ({ s.set8 r x.res with f := x.flags }.advance 1 s.cfg.cycleTable.incDecReg)

/-- R147: DEC (HL), the read before the write. -/
def doDecAtHL (s : State) : Result :=
  s.loadThen s.hl fun v =>
    let x := dec8 v (flagC s.f)
    s.storeThen s.hl x.res fun t => .next ({ t with f := x.flags }.advance 1 s.cfg.cycleTable.incDecAtHL)

/-- R148: LD r,d8. -/
def doLdRegImm (r : Reg8) (d8 : Byte) (s : State) : Result :=
  .next ((s.set8 r d8).advance 2 s.cfg.cycleTable.ldRegImm)

/-- R149: LD (HL),d8. -/
def doLdAtHLImm (d8 : Byte) (s : State) : Result :=
  s.storeThen s.hl d8 fun t => .next (t.advance 2 s.cfg.cycleTable.ldAtHLImm)

/-- The target of a relative jump, `(a + 2 + e) mod 2^16` (R150; the spec's decision D8, log entry 8). -/
def jrTarget (s : State) (e : Int) : Word := s.pc + 2 + BitVec.ofInt 16 e

/-- R150: JR e. -/
def doJr (e : Int) (s : State) : Result := .next (s.complete (jrTarget s e) s.cfg.cycleTable.jr)

/-- R151: JR cc,e. -/
def doJrCond (cc : Cond) (e : Int) (s : State) : Result :=
  if condHolds s.f cc then .next (s.complete (jrTarget s e) s.cfg.cycleTable.jrTaken)
  else .next (s.advance 2 s.cfg.cycleTable.jrNotTaken)

/-! ## One meaning per opcode byte -/

/-- `nop` (R140). -/
def execNop (s : State) : Result := doNop s

/-- `ld bc, d16` (R141). -/
def execLdBC_D16 (d16 : Word) (s : State) : Result := doLdPairImm .bc d16 s

/-- `inc bc` (R142). -/
def execIncBC (s : State) : Result := doIncPair .bc s

/-- `inc b` (R144). -/
def execIncB (s : State) : Result := doIncReg .b s

/-- `dec b` (R146). -/
def execDecB (s : State) : Result := doDecReg .b s

/-- `ld b, d8` (R148). -/
def execLdB_D8 (d8 : Byte) (s : State) : Result := doLdRegImm .b d8 s

/-- `dec bc` (R143). -/
def execDecBC (s : State) : Result := doDecPair .bc s

/-- `inc c` (R144). -/
def execIncC (s : State) : Result := doIncReg .c s

/-- `dec c` (R146). -/
def execDecC (s : State) : Result := doDecReg .c s

/-- `ld c, d8` (R148). -/
def execLdC_D8 (d8 : Byte) (s : State) : Result := doLdRegImm .c d8 s

/-- `ld de, d16` (R141). -/
def execLdDE_D16 (d16 : Word) (s : State) : Result := doLdPairImm .de d16 s

/-- `inc de` (R142). -/
def execIncDE (s : State) : Result := doIncPair .de s

/-- `inc d` (R144). -/
def execIncD (s : State) : Result := doIncReg .d s

/-- `dec d` (R146). -/
def execDecD (s : State) : Result := doDecReg .d s

/-- `ld d, d8` (R148). -/
def execLdD_D8 (d8 : Byte) (s : State) : Result := doLdRegImm .d d8 s

/-- `jr e` (R150). -/
def execJr (e : Int) (s : State) : Result := doJr e s

/-- `dec de` (R143). -/
def execDecDE (s : State) : Result := doDecPair .de s

/-- `inc e` (R144). -/
def execIncE (s : State) : Result := doIncReg .e s

/-- `dec e` (R146). -/
def execDecE (s : State) : Result := doDecReg .e s

/-- `ld e, d8` (R148). -/
def execLdE_D8 (d8 : Byte) (s : State) : Result := doLdRegImm .e d8 s

/-- `jr nz, e` (R151). -/
def execJrNZ (e : Int) (s : State) : Result := doJrCond .nz e s

/-- `ld hl, d16` (R141). -/
def execLdHL_D16 (d16 : Word) (s : State) : Result := doLdPairImm .hl d16 s

/-- `inc hl` (R142). -/
def execIncHL (s : State) : Result := doIncPair .hl s

/-- `inc h` (R144). -/
def execIncH (s : State) : Result := doIncReg .h s

/-- `dec h` (R146). -/
def execDecH (s : State) : Result := doDecReg .h s

/-- `ld h, d8` (R148). -/
def execLdH_D8 (d8 : Byte) (s : State) : Result := doLdRegImm .h d8 s

/-- `jr z, e` (R151). -/
def execJrZ (e : Int) (s : State) : Result := doJrCond .z e s

/-- `dec hl` (R143). -/
def execDecHL (s : State) : Result := doDecPair .hl s

/-- `inc l` (R144). -/
def execIncL (s : State) : Result := doIncReg .l s

/-- `dec l` (R146). -/
def execDecL (s : State) : Result := doDecReg .l s

/-- `ld l, d8` (R148). -/
def execLdL_D8 (d8 : Byte) (s : State) : Result := doLdRegImm .l d8 s

/-- `jr nc, e` (R151). -/
def execJrNC (e : Int) (s : State) : Result := doJrCond .nc e s

/-- `ld sp, d16` (R141). -/
def execLdSP_D16 (d16 : Word) (s : State) : Result := doLdPairImm .sp d16 s

/-- `inc sp` (R142). -/
def execIncSP (s : State) : Result := doIncPair .sp s

/-- `inc (hl)` (R145). -/
def execIncAtHL (s : State) : Result := doIncAtHL s

/-- `dec (hl)` (R147). -/
def execDecAtHL (s : State) : Result := doDecAtHL s

/-- `ld (hl), d8` (R149). -/
def execLdAtHL_D8 (d8 : Byte) (s : State) : Result := doLdAtHLImm d8 s

/-- `jr c, e` (R151). -/
def execJrC (e : Int) (s : State) : Result := doJrCond .c e s

/-- `dec sp` (R143). -/
def execDecSP (s : State) : Result := doDecPair .sp s

/-- `inc a` (R144). -/
def execIncA (s : State) : Result := doIncReg .a s

/-- `dec a` (R146). -/
def execDecA (s : State) : Result := doDecReg .a s

/-- `ld a, d8` (R148). -/
def execLdA_D8 (d8 : Byte) (s : State) : Result := doLdRegImm .a d8 s

end Sys2Proof.Machine
end

