-- ==== Sys2Proof/Machine/Quadrant1.lean ====
section
/-! DEFINITION. Quadrant 1 (43_quadrant1.md): the 8-bit loads and HALT. First the form each rule describes, over its
operands; then one meaning per opcode byte. -/

namespace Sys2Proof.Machine

/-- R170: LD r,r'. -/
def doLdRegReg (dst src : Reg8) (s : State) : Result :=
  .next ((s.set8 dst (s.get8 src)).advance 1 s.cfg.cycleTable.ldRegReg)

/-- R171: LD r,(HL); the address is the old HL, whichever register is written. -/
def doLdRegAtHL (dst : Reg8) (s : State) : Result :=
  s.loadThen s.hl fun v => .next ((s.set8 dst v).advance 1 s.cfg.cycleTable.ldRegAtHL)

/-- R172: LD (HL),r. -/
def doLdAtHLReg (src : Reg8) (s : State) : Result :=
  s.storeThen s.hl (s.get8 src) fun t => .next (t.advance 1 s.cfg.cycleTable.ldAtHLReg)

/-- R173: HALT. PC moves past it (the spec's decision D16, log entry 13). -/
def doHalt (s : State) : Result :=
  .next ({ s with halted := true }.advance 1 s.cfg.cycleTable.halt)

/-! ## One meaning per opcode byte -/

/-- `ld b, b` (R170). -/
def execLdB_B (s : State) : Result := doLdRegReg .b .b s

/-- `ld b, c` (R170). -/
def execLdB_C (s : State) : Result := doLdRegReg .b .c s

/-- `ld b, d` (R170). -/
def execLdB_D (s : State) : Result := doLdRegReg .b .d s

/-- `ld b, e` (R170). -/
def execLdB_E (s : State) : Result := doLdRegReg .b .e s

/-- `ld b, h` (R170). -/
def execLdB_H (s : State) : Result := doLdRegReg .b .h s

/-- `ld b, l` (R170). -/
def execLdB_L (s : State) : Result := doLdRegReg .b .l s

/-- `ld b, (hl)` (R171). -/
def execLdB_AtHL (s : State) : Result := doLdRegAtHL .b s

/-- `ld b, a` (R170). -/
def execLdB_A (s : State) : Result := doLdRegReg .b .a s

/-- `ld c, b` (R170). -/
def execLdC_B (s : State) : Result := doLdRegReg .c .b s

/-- `ld c, c` (R170). -/
def execLdC_C (s : State) : Result := doLdRegReg .c .c s

/-- `ld c, d` (R170). -/
def execLdC_D (s : State) : Result := doLdRegReg .c .d s

/-- `ld c, e` (R170). -/
def execLdC_E (s : State) : Result := doLdRegReg .c .e s

/-- `ld c, h` (R170). -/
def execLdC_H (s : State) : Result := doLdRegReg .c .h s

/-- `ld c, l` (R170). -/
def execLdC_L (s : State) : Result := doLdRegReg .c .l s

/-- `ld c, (hl)` (R171). -/
def execLdC_AtHL (s : State) : Result := doLdRegAtHL .c s

/-- `ld c, a` (R170). -/
def execLdC_A (s : State) : Result := doLdRegReg .c .a s

/-- `ld d, b` (R170). -/
def execLdD_B (s : State) : Result := doLdRegReg .d .b s

/-- `ld d, c` (R170). -/
def execLdD_C (s : State) : Result := doLdRegReg .d .c s

/-- `ld d, d` (R170). -/
def execLdD_D (s : State) : Result := doLdRegReg .d .d s

/-- `ld d, e` (R170). -/
def execLdD_E (s : State) : Result := doLdRegReg .d .e s

/-- `ld d, h` (R170). -/
def execLdD_H (s : State) : Result := doLdRegReg .d .h s

/-- `ld d, l` (R170). -/
def execLdD_L (s : State) : Result := doLdRegReg .d .l s

/-- `ld d, (hl)` (R171). -/
def execLdD_AtHL (s : State) : Result := doLdRegAtHL .d s

/-- `ld d, a` (R170). -/
def execLdD_A (s : State) : Result := doLdRegReg .d .a s

/-- `ld e, b` (R170). -/
def execLdE_B (s : State) : Result := doLdRegReg .e .b s

/-- `ld e, c` (R170). -/
def execLdE_C (s : State) : Result := doLdRegReg .e .c s

/-- `ld e, d` (R170). -/
def execLdE_D (s : State) : Result := doLdRegReg .e .d s

/-- `ld e, e` (R170). -/
def execLdE_E (s : State) : Result := doLdRegReg .e .e s

/-- `ld e, h` (R170). -/
def execLdE_H (s : State) : Result := doLdRegReg .e .h s

/-- `ld e, l` (R170). -/
def execLdE_L (s : State) : Result := doLdRegReg .e .l s

/-- `ld e, (hl)` (R171). -/
def execLdE_AtHL (s : State) : Result := doLdRegAtHL .e s

/-- `ld e, a` (R170). -/
def execLdE_A (s : State) : Result := doLdRegReg .e .a s

/-- `ld h, b` (R170). -/
def execLdH_B (s : State) : Result := doLdRegReg .h .b s

/-- `ld h, c` (R170). -/
def execLdH_C (s : State) : Result := doLdRegReg .h .c s

/-- `ld h, d` (R170). -/
def execLdH_D (s : State) : Result := doLdRegReg .h .d s

/-- `ld h, e` (R170). -/
def execLdH_E (s : State) : Result := doLdRegReg .h .e s

/-- `ld h, h` (R170). -/
def execLdH_H (s : State) : Result := doLdRegReg .h .h s

/-- `ld h, l` (R170). -/
def execLdH_L (s : State) : Result := doLdRegReg .h .l s

/-- `ld h, (hl)` (R171). -/
def execLdH_AtHL (s : State) : Result := doLdRegAtHL .h s

/-- `ld h, a` (R170). -/
def execLdH_A (s : State) : Result := doLdRegReg .h .a s

/-- `ld l, b` (R170). -/
def execLdL_B (s : State) : Result := doLdRegReg .l .b s

/-- `ld l, c` (R170). -/
def execLdL_C (s : State) : Result := doLdRegReg .l .c s

/-- `ld l, d` (R170). -/
def execLdL_D (s : State) : Result := doLdRegReg .l .d s

/-- `ld l, e` (R170). -/
def execLdL_E (s : State) : Result := doLdRegReg .l .e s

/-- `ld l, h` (R170). -/
def execLdL_H (s : State) : Result := doLdRegReg .l .h s

/-- `ld l, l` (R170). -/
def execLdL_L (s : State) : Result := doLdRegReg .l .l s

/-- `ld l, (hl)` (R171). -/
def execLdL_AtHL (s : State) : Result := doLdRegAtHL .l s

/-- `ld l, a` (R170). -/
def execLdL_A (s : State) : Result := doLdRegReg .l .a s

/-- `ld (hl), b` (R172). -/
def execLdAtHL_B (s : State) : Result := doLdAtHLReg .b s

/-- `ld (hl), c` (R172). -/
def execLdAtHL_C (s : State) : Result := doLdAtHLReg .c s

/-- `ld (hl), d` (R172). -/
def execLdAtHL_D (s : State) : Result := doLdAtHLReg .d s

/-- `ld (hl), e` (R172). -/
def execLdAtHL_E (s : State) : Result := doLdAtHLReg .e s

/-- `ld (hl), h` (R172). -/
def execLdAtHL_H (s : State) : Result := doLdAtHLReg .h s

/-- `ld (hl), l` (R172). -/
def execLdAtHL_L (s : State) : Result := doLdAtHLReg .l s

/-- `halt` (R173). -/
def execHalt (s : State) : Result := doHalt s

/-- `ld (hl), a` (R172). -/
def execLdAtHL_A (s : State) : Result := doLdAtHLReg .a s

/-- `ld a, b` (R170). -/
def execLdA_B (s : State) : Result := doLdRegReg .a .b s

/-- `ld a, c` (R170). -/
def execLdA_C (s : State) : Result := doLdRegReg .a .c s

/-- `ld a, d` (R170). -/
def execLdA_D (s : State) : Result := doLdRegReg .a .d s

/-- `ld a, e` (R170). -/
def execLdA_E (s : State) : Result := doLdRegReg .a .e s

/-- `ld a, h` (R170). -/
def execLdA_H (s : State) : Result := doLdRegReg .a .h s

/-- `ld a, l` (R170). -/
def execLdA_L (s : State) : Result := doLdRegReg .a .l s

/-- `ld a, (hl)` (R171). -/
def execLdA_AtHL (s : State) : Result := doLdRegAtHL .a s

/-- `ld a, a` (R170). -/
def execLdA_A (s : State) : Result := doLdRegReg .a .a s

end Sys2Proof.Machine
end

