-- ==== Sys2Proof/Machine/Quadrant2.lean ====
section
/-! DEFINITION. Quadrant 2 (44_quadrant2.md): ADD, ADC, SUB, SBC, AND, XOR, OR and CP of A with a register or the byte
at HL. First the two forms over their operands; then one meaning per opcode byte. -/

namespace Sys2Proof.Machine

/-- R180, R182, R184, R186, R188, R190, R192, R194: the register form. -/
def doAluReg (o : AluOp) (src : Reg8) (s : State) : Result :=
  .next ((s.applyAlu o (s.get8 src)).advance 1 s.cfg.cycleTable.aluReg)

/-- R181, R183, R185, R187, R189, R191, R193, R195: the memory form. -/
def doAluAtHL (o : AluOp) (s : State) : Result :=
  s.loadThen s.hl fun v => .next ((s.applyAlu o v).advance 1 s.cfg.cycleTable.aluAtHL)

/-! ## One meaning per opcode byte -/

/-- `add a, b` (R180). -/
def execAddA_B (s : State) : Result := doAluReg .add .b s

/-- `add a, c` (R180). -/
def execAddA_C (s : State) : Result := doAluReg .add .c s

/-- `add a, d` (R180). -/
def execAddA_D (s : State) : Result := doAluReg .add .d s

/-- `add a, e` (R180). -/
def execAddA_E (s : State) : Result := doAluReg .add .e s

/-- `add a, h` (R180). -/
def execAddA_H (s : State) : Result := doAluReg .add .h s

/-- `add a, l` (R180). -/
def execAddA_L (s : State) : Result := doAluReg .add .l s

/-- `add a, (hl)` (R181). -/
def execAddA_AtHL (s : State) : Result := doAluAtHL .add s

/-- `add a, a` (R180). -/
def execAddA_A (s : State) : Result := doAluReg .add .a s

/-- `adc a, b` (R182). -/
def execAdcA_B (s : State) : Result := doAluReg .adc .b s

/-- `adc a, c` (R182). -/
def execAdcA_C (s : State) : Result := doAluReg .adc .c s

/-- `adc a, d` (R182). -/
def execAdcA_D (s : State) : Result := doAluReg .adc .d s

/-- `adc a, e` (R182). -/
def execAdcA_E (s : State) : Result := doAluReg .adc .e s

/-- `adc a, h` (R182). -/
def execAdcA_H (s : State) : Result := doAluReg .adc .h s

/-- `adc a, l` (R182). -/
def execAdcA_L (s : State) : Result := doAluReg .adc .l s

/-- `adc a, (hl)` (R183). -/
def execAdcA_AtHL (s : State) : Result := doAluAtHL .adc s

/-- `adc a, a` (R182). -/
def execAdcA_A (s : State) : Result := doAluReg .adc .a s

/-- `sub a, b` (R184). -/
def execSubA_B (s : State) : Result := doAluReg .sub .b s

/-- `sub a, c` (R184). -/
def execSubA_C (s : State) : Result := doAluReg .sub .c s

/-- `sub a, d` (R184). -/
def execSubA_D (s : State) : Result := doAluReg .sub .d s

/-- `sub a, e` (R184). -/
def execSubA_E (s : State) : Result := doAluReg .sub .e s

/-- `sub a, h` (R184). -/
def execSubA_H (s : State) : Result := doAluReg .sub .h s

/-- `sub a, l` (R184). -/
def execSubA_L (s : State) : Result := doAluReg .sub .l s

/-- `sub a, (hl)` (R185). -/
def execSubA_AtHL (s : State) : Result := doAluAtHL .sub s

/-- `sub a, a` (R184). -/
def execSubA_A (s : State) : Result := doAluReg .sub .a s

/-- `sbc a, b` (R186). -/
def execSbcA_B (s : State) : Result := doAluReg .sbc .b s

/-- `sbc a, c` (R186). -/
def execSbcA_C (s : State) : Result := doAluReg .sbc .c s

/-- `sbc a, d` (R186). -/
def execSbcA_D (s : State) : Result := doAluReg .sbc .d s

/-- `sbc a, e` (R186). -/
def execSbcA_E (s : State) : Result := doAluReg .sbc .e s

/-- `sbc a, h` (R186). -/
def execSbcA_H (s : State) : Result := doAluReg .sbc .h s

/-- `sbc a, l` (R186). -/
def execSbcA_L (s : State) : Result := doAluReg .sbc .l s

/-- `sbc a, (hl)` (R187). -/
def execSbcA_AtHL (s : State) : Result := doAluAtHL .sbc s

/-- `sbc a, a` (R186). -/
def execSbcA_A (s : State) : Result := doAluReg .sbc .a s

/-- `and a, b` (R188). -/
def execAndA_B (s : State) : Result := doAluReg .and .b s

/-- `and a, c` (R188). -/
def execAndA_C (s : State) : Result := doAluReg .and .c s

/-- `and a, d` (R188). -/
def execAndA_D (s : State) : Result := doAluReg .and .d s

/-- `and a, e` (R188). -/
def execAndA_E (s : State) : Result := doAluReg .and .e s

/-- `and a, h` (R188). -/
def execAndA_H (s : State) : Result := doAluReg .and .h s

/-- `and a, l` (R188). -/
def execAndA_L (s : State) : Result := doAluReg .and .l s

/-- `and a, (hl)` (R189). -/
def execAndA_AtHL (s : State) : Result := doAluAtHL .and s

/-- `and a, a` (R188). -/
def execAndA_A (s : State) : Result := doAluReg .and .a s

/-- `xor a, b` (R190). -/
def execXorA_B (s : State) : Result := doAluReg .xor .b s

/-- `xor a, c` (R190). -/
def execXorA_C (s : State) : Result := doAluReg .xor .c s

/-- `xor a, d` (R190). -/
def execXorA_D (s : State) : Result := doAluReg .xor .d s

/-- `xor a, e` (R190). -/
def execXorA_E (s : State) : Result := doAluReg .xor .e s

/-- `xor a, h` (R190). -/
def execXorA_H (s : State) : Result := doAluReg .xor .h s

/-- `xor a, l` (R190). -/
def execXorA_L (s : State) : Result := doAluReg .xor .l s

/-- `xor a, (hl)` (R191). -/
def execXorA_AtHL (s : State) : Result := doAluAtHL .xor s

/-- `xor a, a` (R190). -/
def execXorA_A (s : State) : Result := doAluReg .xor .a s

/-- `or a, b` (R192). -/
def execOrA_B (s : State) : Result := doAluReg .or .b s

/-- `or a, c` (R192). -/
def execOrA_C (s : State) : Result := doAluReg .or .c s

/-- `or a, d` (R192). -/
def execOrA_D (s : State) : Result := doAluReg .or .d s

/-- `or a, e` (R192). -/
def execOrA_E (s : State) : Result := doAluReg .or .e s

/-- `or a, h` (R192). -/
def execOrA_H (s : State) : Result := doAluReg .or .h s

/-- `or a, l` (R192). -/
def execOrA_L (s : State) : Result := doAluReg .or .l s

/-- `or a, (hl)` (R193). -/
def execOrA_AtHL (s : State) : Result := doAluAtHL .or s

/-- `or a, a` (R192). -/
def execOrA_A (s : State) : Result := doAluReg .or .a s

/-- `cp a, b` (R194). -/
def execCpA_B (s : State) : Result := doAluReg .cp .b s

/-- `cp a, c` (R194). -/
def execCpA_C (s : State) : Result := doAluReg .cp .c s

/-- `cp a, d` (R194). -/
def execCpA_D (s : State) : Result := doAluReg .cp .d s

/-- `cp a, e` (R194). -/
def execCpA_E (s : State) : Result := doAluReg .cp .e s

/-- `cp a, h` (R194). -/
def execCpA_H (s : State) : Result := doAluReg .cp .h s

/-- `cp a, l` (R194). -/
def execCpA_L (s : State) : Result := doAluReg .cp .l s

/-- `cp a, (hl)` (R195). -/
def execCpA_AtHL (s : State) : Result := doAluAtHL .cp s

/-- `cp a, a` (R194). -/
def execCpA_A (s : State) : Result := doAluReg .cp .a s

end Sys2Proof.Machine
end

