-- ==== Sys2Proof/Machine/Quadrant3.lean ====
section
/-! DEFINITION. Quadrant 3 (45_quadrant3.md): the immediate accumulator operations, the conditional returns, jumps and
calls, restart, push and pop. First the form each rule describes, over its operands; then one meaning per opcode byte.
An immediate has been read by the fetch (Fetch.lean), before anything here runs (R56). -/

namespace Sys2Proof.Machine

/-- R200–R208: an accumulator operation with an immediate. -/
def doAluImm (o : AluOp) (d8 : Byte) (s : State) : Result :=
  .next ((s.applyAlu o d8).advance 2 s.cfg.cycleTable.aluImm)

/-- R209: RET cc. -/
def doRetCond (cc : Cond) (s : State) : Result :=
  if condHolds s.f cc then s.pop16Then fun v t => .next (t.complete v s.cfg.cycleTable.retTaken)
  else .next (s.advance 1 s.cfg.cycleTable.retNotTaken)

/-- R210: JP cc,a16. -/
def doJpCond (cc : Cond) (a16 : Word) (s : State) : Result :=
  if condHolds s.f cc then .next (s.complete a16 s.cfg.cycleTable.jpTaken)
  else .next (s.advance 3 s.cfg.cycleTable.jpNotTaken)

/-- R211: CALL cc,a16; the return address is `a + 3` (R125; the spec's decision D7, log entry 7). -/
def doCallCond (cc : Cond) (a16 : Word) (s : State) : Result :=
  if condHolds s.f cc then
    s.push16Then (s.pc + 3) fun t => .next (t.complete a16 s.cfg.cycleTable.callTaken)
  else .next (s.advance 3 s.cfg.cycleTable.callNotTaken)

/-- The target of RST, `t * 8` (R70). -/
def rstTarget (t : Nat) : Word := BitVec.ofNat 16 (t * 8)

/-- R212: RST t; the return address is `a + 1` (R125; the spec's decision D7, log entry 7). -/
def doRst (t : Nat) (s : State) : Result :=
  s.push16Then (s.pc + 1) fun u => .next (u.complete (rstTarget t) s.cfg.cycleTable.rst)

/-- R213: PUSH rr. -/
def doPush (p : StackPair) (s : State) : Result :=
  s.push16Then (s.getStackPair p) fun t => .next (t.advance 1 s.cfg.cycleTable.push)

/-- R214, R215: POP rr, POP AF among them (`State.popped`). -/
def doPop (p : StackPair) (s : State) : Result :=
  s.pop16Then fun v t => .next ((t.setStackPair p (s.popped p v)).advance 1 s.cfg.cycleTable.pop)

/-! ## One meaning per opcode byte -/

/-- `ret nz` (R209). -/
def execRetNZ (s : State) : Result := doRetCond .nz s

/-- `pop bc` (R214). -/
def execPopBC (s : State) : Result := doPop .bc s

/-- `jp nz, a16` (R210). -/
def execJpNZ (a16 : Word) (s : State) : Result := doJpCond .nz a16 s

/-- `call nz, a16` (R211). -/
def execCallNZ (a16 : Word) (s : State) : Result := doCallCond .nz a16 s

/-- `push bc` (R213). -/
def execPushBC (s : State) : Result := doPush .bc s

/-- `add a, d8` (R201). -/
def execAddA_D8 (d8 : Byte) (s : State) : Result := doAluImm .add d8 s

/-- `rst 0x00` (R212). -/
def execRst00 (s : State) : Result := doRst 0 s

/-- `ret z` (R209). -/
def execRetZ (s : State) : Result := doRetCond .z s

/-- `jp z, a16` (R210). -/
def execJpZ (a16 : Word) (s : State) : Result := doJpCond .z a16 s

/-- `call z, a16` (R211). -/
def execCallZ (a16 : Word) (s : State) : Result := doCallCond .z a16 s

/-- `adc a, d8` (R202). -/
def execAdcA_D8 (d8 : Byte) (s : State) : Result := doAluImm .adc d8 s

/-- `rst 0x08` (R212). -/
def execRst08 (s : State) : Result := doRst 1 s

/-- `ret nc` (R209). -/
def execRetNC (s : State) : Result := doRetCond .nc s

/-- `pop de` (R214). -/
def execPopDE (s : State) : Result := doPop .de s

/-- `jp nc, a16` (R210). -/
def execJpNC (a16 : Word) (s : State) : Result := doJpCond .nc a16 s

/-- `call nc, a16` (R211). -/
def execCallNC (a16 : Word) (s : State) : Result := doCallCond .nc a16 s

/-- `push de` (R213). -/
def execPushDE (s : State) : Result := doPush .de s

/-- `sub a, d8` (R203). -/
def execSubA_D8 (d8 : Byte) (s : State) : Result := doAluImm .sub d8 s

/-- `rst 0x10` (R212). -/
def execRst10 (s : State) : Result := doRst 2 s

/-- `ret c` (R209). -/
def execRetC (s : State) : Result := doRetCond .c s

/-- `jp c, a16` (R210). -/
def execJpC (a16 : Word) (s : State) : Result := doJpCond .c a16 s

/-- `call c, a16` (R211). -/
def execCallC (a16 : Word) (s : State) : Result := doCallCond .c a16 s

/-- `sbc a, d8` (R204). -/
def execSbcA_D8 (d8 : Byte) (s : State) : Result := doAluImm .sbc d8 s

/-- `rst 0x18` (R212). -/
def execRst18 (s : State) : Result := doRst 3 s

/-- `pop hl` (R214). -/
def execPopHL (s : State) : Result := doPop .hl s

/-- `push hl` (R213). -/
def execPushHL (s : State) : Result := doPush .hl s

/-- `and a, d8` (R205). -/
def execAndA_D8 (d8 : Byte) (s : State) : Result := doAluImm .and d8 s

/-- `rst 0x20` (R212). -/
def execRst20 (s : State) : Result := doRst 4 s

/-- `xor a, d8` (R206). -/
def execXorA_D8 (d8 : Byte) (s : State) : Result := doAluImm .xor d8 s

/-- `rst 0x28` (R212). -/
def execRst28 (s : State) : Result := doRst 5 s

/-- `pop af` (R215). -/
def execPopAF (s : State) : Result := doPop .af s

/-- `push af` (R213). -/
def execPushAF (s : State) : Result := doPush .af s

/-- `or a, d8` (R207). -/
def execOrA_D8 (d8 : Byte) (s : State) : Result := doAluImm .or d8 s

/-- `rst 0x30` (R212). -/
def execRst30 (s : State) : Result := doRst 6 s

/-- `cp a, d8` (R208). -/
def execCpA_D8 (d8 : Byte) (s : State) : Result := doAluImm .cp d8 s

/-- `rst 0x38` (R212). -/
def execRst38 (s : State) : Result := doRst 7 s

end Sys2Proof.Machine
end

