-- ==== Sys2Proof/Machine/Unimplemented.lean ====
section
/-! DEFINITION. The 50 unimplemented bytes (30_encoding.md R77, R80; 60_exceptions.md R301): each raises
UnimplementedOpcode with the byte and its address, reads no immediate and writes nothing. -/

namespace Sys2Proof.Machine

/-- R301: raise `UnimplementedOpcode(op, a)`. -/
def doUnimplemented (op : Byte) (s : State) : Result := raise (.unimplementedOpcode op s.pc)

/-! ## One meaning per opcode byte -/

/-- `unimplemented 0x02` (R301). -/
def execUnimplemented02 (s : State) : Result := doUnimplemented 0x02 s

/-- `unimplemented 0x07` (R301). -/
def execUnimplemented07 (s : State) : Result := doUnimplemented 0x07 s

/-- `unimplemented 0x08` (R301). -/
def execUnimplemented08 (s : State) : Result := doUnimplemented 0x08 s

/-- `unimplemented 0x09` (R301). -/
def execUnimplemented09 (s : State) : Result := doUnimplemented 0x09 s

/-- `unimplemented 0x0a` (R301). -/
def execUnimplemented0A (s : State) : Result := doUnimplemented 0x0A s

/-- `unimplemented 0x0f` (R301). -/
def execUnimplemented0F (s : State) : Result := doUnimplemented 0x0F s

/-- `unimplemented 0x10` (R301). -/
def execUnimplemented10 (s : State) : Result := doUnimplemented 0x10 s

/-- `unimplemented 0x12` (R301). -/
def execUnimplemented12 (s : State) : Result := doUnimplemented 0x12 s

/-- `unimplemented 0x17` (R301). -/
def execUnimplemented17 (s : State) : Result := doUnimplemented 0x17 s

/-- `unimplemented 0x19` (R301). -/
def execUnimplemented19 (s : State) : Result := doUnimplemented 0x19 s

/-- `unimplemented 0x1a` (R301). -/
def execUnimplemented1A (s : State) : Result := doUnimplemented 0x1A s

/-- `unimplemented 0x1f` (R301). -/
def execUnimplemented1F (s : State) : Result := doUnimplemented 0x1F s

/-- `unimplemented 0x22` (R301). -/
def execUnimplemented22 (s : State) : Result := doUnimplemented 0x22 s

/-- `unimplemented 0x27` (R301). -/
def execUnimplemented27 (s : State) : Result := doUnimplemented 0x27 s

/-- `unimplemented 0x29` (R301). -/
def execUnimplemented29 (s : State) : Result := doUnimplemented 0x29 s

/-- `unimplemented 0x2a` (R301). -/
def execUnimplemented2A (s : State) : Result := doUnimplemented 0x2A s

/-- `unimplemented 0x2f` (R301). -/
def execUnimplemented2F (s : State) : Result := doUnimplemented 0x2F s

/-- `unimplemented 0x32` (R301). -/
def execUnimplemented32 (s : State) : Result := doUnimplemented 0x32 s

/-- `unimplemented 0x37` (R301). -/
def execUnimplemented37 (s : State) : Result := doUnimplemented 0x37 s

/-- `unimplemented 0x39` (R301). -/
def execUnimplemented39 (s : State) : Result := doUnimplemented 0x39 s

/-- `unimplemented 0x3a` (R301). -/
def execUnimplemented3A (s : State) : Result := doUnimplemented 0x3A s

/-- `unimplemented 0x3f` (R301). -/
def execUnimplemented3F (s : State) : Result := doUnimplemented 0x3F s

/-- `unimplemented 0xc3` (R301). -/
def execUnimplementedC3 (s : State) : Result := doUnimplemented 0xC3 s

/-- `unimplemented 0xc9` (R301). -/
def execUnimplementedC9 (s : State) : Result := doUnimplemented 0xC9 s

/-- `unimplemented 0xcb` (R301). -/
def execUnimplementedCB (s : State) : Result := doUnimplemented 0xCB s

/-- `unimplemented 0xcd` (R301). -/
def execUnimplementedCD (s : State) : Result := doUnimplemented 0xCD s

/-- `unimplemented 0xd3` (R301). -/
def execUnimplementedD3 (s : State) : Result := doUnimplemented 0xD3 s

/-- `unimplemented 0xd9` (R301). -/
def execUnimplementedD9 (s : State) : Result := doUnimplemented 0xD9 s

/-- `unimplemented 0xdb` (R301). -/
def execUnimplementedDB (s : State) : Result := doUnimplemented 0xDB s

/-- `unimplemented 0xdd` (R301). -/
def execUnimplementedDD (s : State) : Result := doUnimplemented 0xDD s

/-- `unimplemented 0xe0` (R301). -/
def execUnimplementedE0 (s : State) : Result := doUnimplemented 0xE0 s

/-- `unimplemented 0xe2` (R301). -/
def execUnimplementedE2 (s : State) : Result := doUnimplemented 0xE2 s

/-- `unimplemented 0xe3` (R301). -/
def execUnimplementedE3 (s : State) : Result := doUnimplemented 0xE3 s

/-- `unimplemented 0xe4` (R301). -/
def execUnimplementedE4 (s : State) : Result := doUnimplemented 0xE4 s

/-- `unimplemented 0xe8` (R301). -/
def execUnimplementedE8 (s : State) : Result := doUnimplemented 0xE8 s

/-- `unimplemented 0xe9` (R301). -/
def execUnimplementedE9 (s : State) : Result := doUnimplemented 0xE9 s

/-- `unimplemented 0xea` (R301). -/
def execUnimplementedEA (s : State) : Result := doUnimplemented 0xEA s

/-- `unimplemented 0xeb` (R301). -/
def execUnimplementedEB (s : State) : Result := doUnimplemented 0xEB s

/-- `unimplemented 0xec` (R301). -/
def execUnimplementedEC (s : State) : Result := doUnimplemented 0xEC s

/-- `unimplemented 0xed` (R301). -/
def execUnimplementedED (s : State) : Result := doUnimplemented 0xED s

/-- `unimplemented 0xf0` (R301). -/
def execUnimplementedF0 (s : State) : Result := doUnimplemented 0xF0 s

/-- `unimplemented 0xf2` (R301). -/
def execUnimplementedF2 (s : State) : Result := doUnimplemented 0xF2 s

/-- `unimplemented 0xf3` (R301). -/
def execUnimplementedF3 (s : State) : Result := doUnimplemented 0xF3 s

/-- `unimplemented 0xf4` (R301). -/
def execUnimplementedF4 (s : State) : Result := doUnimplemented 0xF4 s

/-- `unimplemented 0xf8` (R301). -/
def execUnimplementedF8 (s : State) : Result := doUnimplemented 0xF8 s

/-- `unimplemented 0xf9` (R301). -/
def execUnimplementedF9 (s : State) : Result := doUnimplemented 0xF9 s

/-- `unimplemented 0xfa` (R301). -/
def execUnimplementedFA (s : State) : Result := doUnimplemented 0xFA s

/-- `unimplemented 0xfb` (R301). -/
def execUnimplementedFB (s : State) : Result := doUnimplemented 0xFB s

/-- `unimplemented 0xfc` (R301). -/
def execUnimplementedFC (s : State) : Result := doUnimplemented 0xFC s

/-- `unimplemented 0xfd` (R301). -/
def execUnimplementedFD (s : State) : Result := doUnimplemented 0xFD s

end Sys2Proof.Machine
end

