-- ==== Sys2Proof/Machine/Dispatch.lean ====
section
/-! DEFINITION. `Execute` of 41_execution_loop.md R122: one arm per constructor of Instr, each one direct call of that
instruction's meaning. -/

namespace Sys2Proof.Machine

def exec (i : Instr) (s : State) : Host.Outcome State Fault Refusal :=
  match i with
  | .nop => Sys2Proof.Machine.execNop s
  | .ldBC_D16 d16 => Sys2Proof.Machine.execLdBC_D16 d16 s
  | .incBC => Sys2Proof.Machine.execIncBC s
  | .incB => Sys2Proof.Machine.execIncB s
  | .decB => Sys2Proof.Machine.execDecB s
  | .ldB_D8 d8 => Sys2Proof.Machine.execLdB_D8 d8 s
  | .decBC => Sys2Proof.Machine.execDecBC s
  | .incC => Sys2Proof.Machine.execIncC s
  | .decC => Sys2Proof.Machine.execDecC s
  | .ldC_D8 d8 => Sys2Proof.Machine.execLdC_D8 d8 s
  | .ldDE_D16 d16 => Sys2Proof.Machine.execLdDE_D16 d16 s
  | .incDE => Sys2Proof.Machine.execIncDE s
  | .incD => Sys2Proof.Machine.execIncD s
  | .decD => Sys2Proof.Machine.execDecD s
  | .ldD_D8 d8 => Sys2Proof.Machine.execLdD_D8 d8 s
  | .jr e => Sys2Proof.Machine.execJr e s
  | .decDE => Sys2Proof.Machine.execDecDE s
  | .incE => Sys2Proof.Machine.execIncE s
  | .decE => Sys2Proof.Machine.execDecE s
  | .ldE_D8 d8 => Sys2Proof.Machine.execLdE_D8 d8 s
  | .jrNZ e => Sys2Proof.Machine.execJrNZ e s
  | .ldHL_D16 d16 => Sys2Proof.Machine.execLdHL_D16 d16 s
  | .incHL => Sys2Proof.Machine.execIncHL s
  | .incH => Sys2Proof.Machine.execIncH s
  | .decH => Sys2Proof.Machine.execDecH s
  | .ldH_D8 d8 => Sys2Proof.Machine.execLdH_D8 d8 s
  | .jrZ e => Sys2Proof.Machine.execJrZ e s
  | .decHL => Sys2Proof.Machine.execDecHL s
  | .incL => Sys2Proof.Machine.execIncL s
  | .decL => Sys2Proof.Machine.execDecL s
  | .ldL_D8 d8 => Sys2Proof.Machine.execLdL_D8 d8 s
  | .jrNC e => Sys2Proof.Machine.execJrNC e s
  | .ldSP_D16 d16 => Sys2Proof.Machine.execLdSP_D16 d16 s
  | .incSP => Sys2Proof.Machine.execIncSP s
  | .incAtHL => Sys2Proof.Machine.execIncAtHL s
  | .decAtHL => Sys2Proof.Machine.execDecAtHL s
  | .ldAtHL_D8 d8 => Sys2Proof.Machine.execLdAtHL_D8 d8 s
  | .jrC e => Sys2Proof.Machine.execJrC e s
  | .decSP => Sys2Proof.Machine.execDecSP s
  | .incA => Sys2Proof.Machine.execIncA s
  | .decA => Sys2Proof.Machine.execDecA s
  | .ldA_D8 d8 => Sys2Proof.Machine.execLdA_D8 d8 s
  | .ldB_B => Sys2Proof.Machine.execLdB_B s
  | .ldB_C => Sys2Proof.Machine.execLdB_C s
  | .ldB_D => Sys2Proof.Machine.execLdB_D s
  | .ldB_E => Sys2Proof.Machine.execLdB_E s
  | .ldB_H => Sys2Proof.Machine.execLdB_H s
  | .ldB_L => Sys2Proof.Machine.execLdB_L s
  | .ldB_AtHL => Sys2Proof.Machine.execLdB_AtHL s
  | .ldB_A => Sys2Proof.Machine.execLdB_A s
  | .ldC_B => Sys2Proof.Machine.execLdC_B s
  | .ldC_C => Sys2Proof.Machine.execLdC_C s
  | .ldC_D => Sys2Proof.Machine.execLdC_D s
  | .ldC_E => Sys2Proof.Machine.execLdC_E s
  | .ldC_H => Sys2Proof.Machine.execLdC_H s
  | .ldC_L => Sys2Proof.Machine.execLdC_L s
  | .ldC_AtHL => Sys2Proof.Machine.execLdC_AtHL s
  | .ldC_A => Sys2Proof.Machine.execLdC_A s
  | .ldD_B => Sys2Proof.Machine.execLdD_B s
  | .ldD_C => Sys2Proof.Machine.execLdD_C s
  | .ldD_D => Sys2Proof.Machine.execLdD_D s
  | .ldD_E => Sys2Proof.Machine.execLdD_E s
  | .ldD_H => Sys2Proof.Machine.execLdD_H s
  | .ldD_L => Sys2Proof.Machine.execLdD_L s
  | .ldD_AtHL => Sys2Proof.Machine.execLdD_AtHL s
  | .ldD_A => Sys2Proof.Machine.execLdD_A s
  | .ldE_B => Sys2Proof.Machine.execLdE_B s
  | .ldE_C => Sys2Proof.Machine.execLdE_C s
  | .ldE_D => Sys2Proof.Machine.execLdE_D s
  | .ldE_E => Sys2Proof.Machine.execLdE_E s
  | .ldE_H => Sys2Proof.Machine.execLdE_H s
  | .ldE_L => Sys2Proof.Machine.execLdE_L s
  | .ldE_AtHL => Sys2Proof.Machine.execLdE_AtHL s
  | .ldE_A => Sys2Proof.Machine.execLdE_A s
  | .ldH_B => Sys2Proof.Machine.execLdH_B s
  | .ldH_C => Sys2Proof.Machine.execLdH_C s
  | .ldH_D => Sys2Proof.Machine.execLdH_D s
  | .ldH_E => Sys2Proof.Machine.execLdH_E s
  | .ldH_H => Sys2Proof.Machine.execLdH_H s
  | .ldH_L => Sys2Proof.Machine.execLdH_L s
  | .ldH_AtHL => Sys2Proof.Machine.execLdH_AtHL s
  | .ldH_A => Sys2Proof.Machine.execLdH_A s
  | .ldL_B => Sys2Proof.Machine.execLdL_B s
  | .ldL_C => Sys2Proof.Machine.execLdL_C s
  | .ldL_D => Sys2Proof.Machine.execLdL_D s
  | .ldL_E => Sys2Proof.Machine.execLdL_E s
  | .ldL_H => Sys2Proof.Machine.execLdL_H s
  | .ldL_L => Sys2Proof.Machine.execLdL_L s
  | .ldL_AtHL => Sys2Proof.Machine.execLdL_AtHL s
  | .ldL_A => Sys2Proof.Machine.execLdL_A s
  | .ldAtHL_B => Sys2Proof.Machine.execLdAtHL_B s
  | .ldAtHL_C => Sys2Proof.Machine.execLdAtHL_C s
  | .ldAtHL_D => Sys2Proof.Machine.execLdAtHL_D s
  | .ldAtHL_E => Sys2Proof.Machine.execLdAtHL_E s
  | .ldAtHL_H => Sys2Proof.Machine.execLdAtHL_H s
  | .ldAtHL_L => Sys2Proof.Machine.execLdAtHL_L s
  | .halt => Sys2Proof.Machine.execHalt s
  | .ldAtHL_A => Sys2Proof.Machine.execLdAtHL_A s
  | .ldA_B => Sys2Proof.Machine.execLdA_B s
  | .ldA_C => Sys2Proof.Machine.execLdA_C s
  | .ldA_D => Sys2Proof.Machine.execLdA_D s
  | .ldA_E => Sys2Proof.Machine.execLdA_E s
  | .ldA_H => Sys2Proof.Machine.execLdA_H s
  | .ldA_L => Sys2Proof.Machine.execLdA_L s
  | .ldA_AtHL => Sys2Proof.Machine.execLdA_AtHL s
  | .ldA_A => Sys2Proof.Machine.execLdA_A s
  | .addA_B => Sys2Proof.Machine.execAddA_B s
  | .addA_C => Sys2Proof.Machine.execAddA_C s
  | .addA_D => Sys2Proof.Machine.execAddA_D s
  | .addA_E => Sys2Proof.Machine.execAddA_E s
  | .addA_H => Sys2Proof.Machine.execAddA_H s
  | .addA_L => Sys2Proof.Machine.execAddA_L s
  | .addA_AtHL => Sys2Proof.Machine.execAddA_AtHL s
  | .addA_A => Sys2Proof.Machine.execAddA_A s
  | .adcA_B => Sys2Proof.Machine.execAdcA_B s
  | .adcA_C => Sys2Proof.Machine.execAdcA_C s
  | .adcA_D => Sys2Proof.Machine.execAdcA_D s
  | .adcA_E => Sys2Proof.Machine.execAdcA_E s
  | .adcA_H => Sys2Proof.Machine.execAdcA_H s
  | .adcA_L => Sys2Proof.Machine.execAdcA_L s
  | .adcA_AtHL => Sys2Proof.Machine.execAdcA_AtHL s
  | .adcA_A => Sys2Proof.Machine.execAdcA_A s
  | .subA_B => Sys2Proof.Machine.execSubA_B s
  | .subA_C => Sys2Proof.Machine.execSubA_C s
  | .subA_D => Sys2Proof.Machine.execSubA_D s
  | .subA_E => Sys2Proof.Machine.execSubA_E s
  | .subA_H => Sys2Proof.Machine.execSubA_H s
  | .subA_L => Sys2Proof.Machine.execSubA_L s
  | .subA_AtHL => Sys2Proof.Machine.execSubA_AtHL s
  | .subA_A => Sys2Proof.Machine.execSubA_A s
  | .sbcA_B => Sys2Proof.Machine.execSbcA_B s
  | .sbcA_C => Sys2Proof.Machine.execSbcA_C s
  | .sbcA_D => Sys2Proof.Machine.execSbcA_D s
  | .sbcA_E => Sys2Proof.Machine.execSbcA_E s
  | .sbcA_H => Sys2Proof.Machine.execSbcA_H s
  | .sbcA_L => Sys2Proof.Machine.execSbcA_L s
  | .sbcA_AtHL => Sys2Proof.Machine.execSbcA_AtHL s
  | .sbcA_A => Sys2Proof.Machine.execSbcA_A s
  | .andA_B => Sys2Proof.Machine.execAndA_B s
  | .andA_C => Sys2Proof.Machine.execAndA_C s
  | .andA_D => Sys2Proof.Machine.execAndA_D s
  | .andA_E => Sys2Proof.Machine.execAndA_E s
  | .andA_H => Sys2Proof.Machine.execAndA_H s
  | .andA_L => Sys2Proof.Machine.execAndA_L s
  | .andA_AtHL => Sys2Proof.Machine.execAndA_AtHL s
  | .andA_A => Sys2Proof.Machine.execAndA_A s
  | .xorA_B => Sys2Proof.Machine.execXorA_B s
  | .xorA_C => Sys2Proof.Machine.execXorA_C s
  | .xorA_D => Sys2Proof.Machine.execXorA_D s
  | .xorA_E => Sys2Proof.Machine.execXorA_E s
  | .xorA_H => Sys2Proof.Machine.execXorA_H s
  | .xorA_L => Sys2Proof.Machine.execXorA_L s
  | .xorA_AtHL => Sys2Proof.Machine.execXorA_AtHL s
  | .xorA_A => Sys2Proof.Machine.execXorA_A s
  | .orA_B => Sys2Proof.Machine.execOrA_B s
  | .orA_C => Sys2Proof.Machine.execOrA_C s
  | .orA_D => Sys2Proof.Machine.execOrA_D s
  | .orA_E => Sys2Proof.Machine.execOrA_E s
  | .orA_H => Sys2Proof.Machine.execOrA_H s
  | .orA_L => Sys2Proof.Machine.execOrA_L s
  | .orA_AtHL => Sys2Proof.Machine.execOrA_AtHL s
  | .orA_A => Sys2Proof.Machine.execOrA_A s
  | .cpA_B => Sys2Proof.Machine.execCpA_B s
  | .cpA_C => Sys2Proof.Machine.execCpA_C s
  | .cpA_D => Sys2Proof.Machine.execCpA_D s
  | .cpA_E => Sys2Proof.Machine.execCpA_E s
  | .cpA_H => Sys2Proof.Machine.execCpA_H s
  | .cpA_L => Sys2Proof.Machine.execCpA_L s
  | .cpA_AtHL => Sys2Proof.Machine.execCpA_AtHL s
  | .cpA_A => Sys2Proof.Machine.execCpA_A s
  | .retNZ => Sys2Proof.Machine.execRetNZ s
  | .popBC => Sys2Proof.Machine.execPopBC s
  | .jpNZ a16 => Sys2Proof.Machine.execJpNZ a16 s
  | .callNZ a16 => Sys2Proof.Machine.execCallNZ a16 s
  | .pushBC => Sys2Proof.Machine.execPushBC s
  | .addA_D8 d8 => Sys2Proof.Machine.execAddA_D8 d8 s
  | .rst00 => Sys2Proof.Machine.execRst00 s
  | .retZ => Sys2Proof.Machine.execRetZ s
  | .jpZ a16 => Sys2Proof.Machine.execJpZ a16 s
  | .callZ a16 => Sys2Proof.Machine.execCallZ a16 s
  | .adcA_D8 d8 => Sys2Proof.Machine.execAdcA_D8 d8 s
  | .rst08 => Sys2Proof.Machine.execRst08 s
  | .retNC => Sys2Proof.Machine.execRetNC s
  | .popDE => Sys2Proof.Machine.execPopDE s
  | .jpNC a16 => Sys2Proof.Machine.execJpNC a16 s
  | .callNC a16 => Sys2Proof.Machine.execCallNC a16 s
  | .pushDE => Sys2Proof.Machine.execPushDE s
  | .subA_D8 d8 => Sys2Proof.Machine.execSubA_D8 d8 s
  | .rst10 => Sys2Proof.Machine.execRst10 s
  | .retC => Sys2Proof.Machine.execRetC s
  | .jpC a16 => Sys2Proof.Machine.execJpC a16 s
  | .callC a16 => Sys2Proof.Machine.execCallC a16 s
  | .sbcA_D8 d8 => Sys2Proof.Machine.execSbcA_D8 d8 s
  | .rst18 => Sys2Proof.Machine.execRst18 s
  | .popHL => Sys2Proof.Machine.execPopHL s
  | .pushHL => Sys2Proof.Machine.execPushHL s
  | .andA_D8 d8 => Sys2Proof.Machine.execAndA_D8 d8 s
  | .rst20 => Sys2Proof.Machine.execRst20 s
  | .xorA_D8 d8 => Sys2Proof.Machine.execXorA_D8 d8 s
  | .rst28 => Sys2Proof.Machine.execRst28 s
  | .popAF => Sys2Proof.Machine.execPopAF s
  | .pushAF => Sys2Proof.Machine.execPushAF s
  | .orA_D8 d8 => Sys2Proof.Machine.execOrA_D8 d8 s
  | .rst30 => Sys2Proof.Machine.execRst30 s
  | .cpA_D8 d8 => Sys2Proof.Machine.execCpA_D8 d8 s
  | .rst38 => Sys2Proof.Machine.execRst38 s
  | .unimplemented02 => Sys2Proof.Machine.execUnimplemented02 s
  | .unimplemented07 => Sys2Proof.Machine.execUnimplemented07 s
  | .unimplemented08 => Sys2Proof.Machine.execUnimplemented08 s
  | .unimplemented09 => Sys2Proof.Machine.execUnimplemented09 s
  | .unimplemented0A => Sys2Proof.Machine.execUnimplemented0A s
  | .unimplemented0F => Sys2Proof.Machine.execUnimplemented0F s
  | .unimplemented10 => Sys2Proof.Machine.execUnimplemented10 s
  | .unimplemented12 => Sys2Proof.Machine.execUnimplemented12 s
  | .unimplemented17 => Sys2Proof.Machine.execUnimplemented17 s
  | .unimplemented19 => Sys2Proof.Machine.execUnimplemented19 s
  | .unimplemented1A => Sys2Proof.Machine.execUnimplemented1A s
  | .unimplemented1F => Sys2Proof.Machine.execUnimplemented1F s
  | .unimplemented22 => Sys2Proof.Machine.execUnimplemented22 s
  | .unimplemented27 => Sys2Proof.Machine.execUnimplemented27 s
  | .unimplemented29 => Sys2Proof.Machine.execUnimplemented29 s
  | .unimplemented2A => Sys2Proof.Machine.execUnimplemented2A s
  | .unimplemented2F => Sys2Proof.Machine.execUnimplemented2F s
  | .unimplemented32 => Sys2Proof.Machine.execUnimplemented32 s
  | .unimplemented37 => Sys2Proof.Machine.execUnimplemented37 s
  | .unimplemented39 => Sys2Proof.Machine.execUnimplemented39 s
  | .unimplemented3A => Sys2Proof.Machine.execUnimplemented3A s
  | .unimplemented3F => Sys2Proof.Machine.execUnimplemented3F s
  | .unimplementedC3 => Sys2Proof.Machine.execUnimplementedC3 s
  | .unimplementedC9 => Sys2Proof.Machine.execUnimplementedC9 s
  | .unimplementedCB => Sys2Proof.Machine.execUnimplementedCB s
  | .unimplementedCD => Sys2Proof.Machine.execUnimplementedCD s
  | .unimplementedD3 => Sys2Proof.Machine.execUnimplementedD3 s
  | .unimplementedD9 => Sys2Proof.Machine.execUnimplementedD9 s
  | .unimplementedDB => Sys2Proof.Machine.execUnimplementedDB s
  | .unimplementedDD => Sys2Proof.Machine.execUnimplementedDD s
  | .unimplementedE0 => Sys2Proof.Machine.execUnimplementedE0 s
  | .unimplementedE2 => Sys2Proof.Machine.execUnimplementedE2 s
  | .unimplementedE3 => Sys2Proof.Machine.execUnimplementedE3 s
  | .unimplementedE4 => Sys2Proof.Machine.execUnimplementedE4 s
  | .unimplementedE8 => Sys2Proof.Machine.execUnimplementedE8 s
  | .unimplementedE9 => Sys2Proof.Machine.execUnimplementedE9 s
  | .unimplementedEA => Sys2Proof.Machine.execUnimplementedEA s
  | .unimplementedEB => Sys2Proof.Machine.execUnimplementedEB s
  | .unimplementedEC => Sys2Proof.Machine.execUnimplementedEC s
  | .unimplementedED => Sys2Proof.Machine.execUnimplementedED s
  | .unimplementedF0 => Sys2Proof.Machine.execUnimplementedF0 s
  | .unimplementedF2 => Sys2Proof.Machine.execUnimplementedF2 s
  | .unimplementedF3 => Sys2Proof.Machine.execUnimplementedF3 s
  | .unimplementedF4 => Sys2Proof.Machine.execUnimplementedF4 s
  | .unimplementedF8 => Sys2Proof.Machine.execUnimplementedF8 s
  | .unimplementedF9 => Sys2Proof.Machine.execUnimplementedF9 s
  | .unimplementedFA => Sys2Proof.Machine.execUnimplementedFA s
  | .unimplementedFB => Sys2Proof.Machine.execUnimplementedFB s
  | .unimplementedFC => Sys2Proof.Machine.execUnimplementedFC s
  | .unimplementedFD => Sys2Proof.Machine.execUnimplementedFD s

end Sys2Proof.Machine
end

