-- ==== Sys2Proof/Machine/Fetch.lean ====
section
/-! DEFINITION. Fetching an instruction (41_execution_loop.md R122, R123): the opcode byte at PC, then as many
immediate bytes as it asks for, each through the bounds check, in address order (20_memory.md R56), and the decoder on
those bytes. An unimplemented byte asks for none, so it is decoded with no further read (R77, R301). -/

namespace Sys2Proof.Machine

/-- The next instruction, then `k` on it. -/
def State.fetchThen (s : State) (k : Instr → Result) : Result :=
  s.loadThen s.pc fun op =>
    s.loadListThen (s.pc + 1) (immBytesOf op) fun imms =>
      match decode (op :: imms) with
      | .ok i _ => k i
      | .error _ => .refused .undecodable

/-- The `n` bytes of memory from `addr` up, addresses modulo 2^16, without the bounds check: what a statement about a
step says the next instruction's bytes are. -/
def State.bytesAt (s : State) (addr : Word) : Nat → List Byte
  | 0 => []
  | n + 1 => s.peek addr :: s.bytesAt (addr + 1) n

/-- Store bytes from `addr` up, addresses modulo 2^16, leaving out an address outside Memory. -/
def State.placeBytes (s : State) (addr : Word) : List Byte → State
  | [] => s
  | v :: vs => (if s.inBounds addr then s.poke addr v else s).placeBytes (addr + 1) vs

end Sys2Proof.Machine
end

