-- ==== Sys2Proof/Machine/Step.lean ====
section
/-! DEFINITION. One step of the machine (41_execution_loop.md R121, R122). -/

namespace Sys2Proof.Machine

/-- `Step` of R122, whatever PC is: fetch, decode, execute; PC and the counter are updated by the instruction's
meaning. -/
def State.runInstruction (s : State) : Host.Outcome State Fault Refusal := s.fetchThen fun i => exec i s

/-- One step. A running state (R121) runs the instruction at PC. In a state whose run has ended no instruction runs:
with a fault record the machine stays stopped with that fault (R304); halted (R31, R312) or with PC at or above
`INSTR_BOUND` (R121) nothing changes (log entry 3). -/
def step (s : State) : Host.Outcome State Fault Refusal :=
  match s.fault with
  | some r => raise r
  | none => if s.halted = true ∨ s.instrBound ≤ s.pc.toNat then .next s else s.runInstruction

/-- `s` with an opcode-table word's bytes at PC, and a run in which the next step fetches there: not ended, and
`INSTR_BOUND` past those bytes. It stands for the image load (log entry 20). -/
def State.withFetchWord (s : State) (nbits w : Nat) : State :=
  { s.placeBytes s.pc (tableBytes nbits w) with
    halted := false, fault := none, instrBound := max s.instrBound (s.pc.toNat + 3) }

end Sys2Proof.Machine
end

