-- ==== Sys2Proof/Machine/Loop.lean ====
section
/-! DEFINITION. The run (41_execution_loop.md R120, R121): when a state is running, how a run stops, and the loop that
applies the step and writes the fault record (10_state.md R33). `step` itself answers a fault as an outcome, which
carries the record and no state. -/

namespace Sys2Proof.Machine

/-- `Running(s)` (R121). -/
def State.running (s : State) : Bool :=
  s.fault.isNone && !s.halted && decide (s.pc.toNat < s.instrBound)

/-- The three ways a run ends (R121). -/
inductive Stop where
  | halted
  | boundExit
  | faulted
  deriving DecidableEq, Repr, Inhabited

/-- The stop of a state, `none` while it is running (R121's table). -/
def State.stop (s : State) : Option Stop :=
  if s.fault.isSome then some .faulted
  else if s.halted then some .halted
  else if s.instrBound ≤ s.pc.toNat then some .boundExit
  else none

/-- FREE VALUE: the state after a fault, of which the spec defines only the fault record (R304, U1). Nothing
constrains it (log entry 4). -/
opaque Config.stateAfterFault (s : State) (r : Fault) : State

/-- The faulted state (R33, R304): the record is the fault, the parameters are the run's, and everything else is the
free value. DESIGN CHOICE (safe, log entry 4): the halt flag is free too, as R304, D11 and U1 have it after any fault,
though R301 and D31 say that it stays false after UnimplementedOpcode. -/
def State.recordFault (s : State) (r : Fault) : State :=
  { Config.stateAfterFault s r with fault := some r, instrBound := s.instrBound, cfg := s.cfg }

/-- One turn of the execution loop (R121): a state that is not running is final; a running one takes a step, and a
fault is recorded. -/
def State.loopStep (s : State) : State :=
  if s.running then
    match step s with
    | .next t => t
    | .fault r => s.recordFault r
    | .refused _ => s
  else s

/-- The run under fuel (R121, R325): at most `n` turns. -/
def State.runLoop : Nat → State → State
  | 0, s => s
  | n + 1, s => State.runLoop n s.loopStep

end Sys2Proof.Machine
end

