-- ==== Sys2Proof/Safety.lean ====
section
/-! DEFINITION. What claims are stated in: the invariant every step keeps, the states that agree outside Memory, and a
run with no fault. -/

namespace Sys2Proof.Machine

/-- The invariant. Memory is in canonical form; it lists no address outside 0 .. `MEM_SIZE - 1` (20_memory.md R41);
and bits 3..0 of F are zero when POP AF masks them (10_state.md R26). -/
abbrev State.Inv (s : State) : Prop :=
  s.mem.wf ∧ (∀ c ∈ s.mem, c.1 < s.cfg.memSize) ∧ (s.cfg.popAfMasksF = true → s.f &&& 0x0F = 0)

/-- `s` and `t` agree in every field but Memory. -/
abbrev State.sameButMem (s t : State) : Prop := { s with mem := t.mem } = t

/-- `n` steps from `s` run without a fault or a refusal. -/
def State.safeFor (s : State) (n : Nat) : Prop := ∃ t, Sys2Proof.core.run n s = .next t

end Sys2Proof.Machine
end

