-- ==== Sys2Proof/Certificates/Slice0/Obligations.lean ====
section
/-! DEFINITION. The statements for the provers. First the vocabulary they share: the selector codes as the spec's
tables number them, the accumulator operations and INC/DEC written again on natural numbers, and byte classes taken
from the spec's tables; then one definition per statement. None is proved here. -/

open Sys2Proof Sys2Proof.Machine

namespace Sys2Proof.Machine

/-- The code of a register in the selector `R8` (30_encoding.md R64). -/
def regCode : Reg8 → Nat
  | .b => 0
  | .c => 1
  | .d => 2
  | .e => 3
  | .h => 4
  | .l => 5
  | .a => 7

/-- The code of an operation in the field `o` (R69). -/
def aluCode : AluOp → Nat
  | .add => 0
  | .adc => 1
  | .sub => 2
  | .sbc => 3
  | .and => 4
  | .xor => 5
  | .or => 6
  | .cp => 7

/-- The code of a pair in the push/pop selector `R16S` (R66). -/
def stackPairCode : StackPair → Nat
  | .bc => 0
  | .de => 1
  | .hl => 2
  | .af => 3

/-- The code of a condition in the field `cc` (R67). -/
def condCode : Cond → Nat
  | .nz => 0
  | .z => 1
  | .nc => 2
  | .c => 3

/-- A result and the four flags, as numbers and truth values. -/
structure AluSpec where
  res : Nat
  z : Bool
  n : Bool
  h : Bool
  c : Bool

/-- The flag byte of those flags, `Z*0x80 + N*0x40 + H*0x20 + C*0x10` (10_state.md R25). -/
def AluSpec.byte (r : AluSpec) : Nat := r.z.toNat * 128 + r.n.toNat * 64 + r.h.toNat * 32 + r.c.toNat * 16

/-- The accumulator operations on natural numbers, with the flags of 44_quadrant2.md's rules. -/
def aluSpec (o : AluOp) (a b cin : Nat) : AluSpec :=
  match o with
  | .add => ⟨(a + b) % 256, (a + b) % 256 == 0, false, decide (15 < a % 16 + b % 16), decide (255 < a + b)⟩
  | .adc => ⟨(a + b + cin) % 256, (a + b + cin) % 256 == 0, false, decide (15 < a % 16 + b % 16 + cin),
      decide (255 < a + b + cin)⟩
  | .sub => ⟨(a + 256 - b) % 256, a == b, true, decide (a % 16 < b % 16), decide (a < b)⟩
  | .sbc => ⟨(a + 512 - b - cin) % 256, (a + 512 - b - cin) % 256 == 0, true, decide (a % 16 < b % 16 + cin),
      decide (a < b + cin)⟩
  | .and => ⟨a &&& b, a &&& b == 0, false, true, false⟩
  | .xor => ⟨a ^^^ b, a == b, false, false, false⟩
  | .or => ⟨a ||| b, a ||| b == 0, false, false, false⟩
  | .cp => ⟨a, a == b, true, decide (a % 16 < b % 16), decide (a < b)⟩

/-- From `s` to `t` an accumulator operation with source byte `b` has been completed, of `len` bytes and `cost`
cycles: A and F as `aluSpec` says, PC past it, and nothing else changed. -/
def aluCompleted (o : AluOp) (b : Byte) (len cost : Nat) (s t : State) : Prop :=
  let r := aluSpec o s.a.toNat b.toNat (flagC s.f).toNat
  t.a.toNat = r.res ∧ t.f.toNat = r.byte ∧
    t = { s with a := t.a, f := t.f, pc := s.pc + BitVec.ofNat 16 len, cycles := s.cycles + BitVec.ofNat 64 cost }

/-- INC of a byte on natural numbers, C kept (42_quadrant0.md R144). -/
def incSpec (v : Nat) (c : Bool) : AluSpec := ⟨(v + 1) % 256, v == 255, false, v % 16 == 15, c⟩

/-- DEC of a byte on natural numbers, C kept (42_quadrant0.md R146). -/
def decSpec (v : Nat) (c : Bool) : AluSpec := ⟨(v + 255) % 256, v == 1, true, v % 16 == 0, c⟩

/-- Every byte of `t`'s memory is `s`'s, but `v` at `addr`. -/
def wroteByte (addr : Word) (v : Byte) (s t : State) : Prop :=
  ∀ x : Nat, t.mem.read x = if x = addr.toNat then v else s.mem.read x

/-- Every byte of `t`'s memory is `s`'s, but the two bytes of `v` below `s`'s SP, high byte at SP − 1 (R45). -/
def pushedWord (v : Word) (s t : State) : Prop :=
  ∀ x : Nat, t.mem.read x =
    if x = (s.sp - 1).toNat then hiByte v else if x = (s.sp - 2).toNat then loByte v else s.mem.read x

/-- The word at SP: low byte at SP, high byte at SP + 1 (R45). -/
def stackTop (s : State) : Word := hiLo (s.peek (s.sp + 1)) (s.peek s.sp)

/-- The opcode bytes whose instructions write F (10_state.md R27): quadrant 2, the immediate operations, INC and DEC
of an 8-bit operand, POP AF. -/
def writesFlagsByte (op : Nat) : Bool :=
  (0x80 ≤ op && op < 0xC0) || (0xC0 ≤ op && op % 8 == 6) || (op < 0x40 && (op % 8 == 4 || op % 8 == 5)) || op == 0xF1

/-- The opcode bytes whose instructions may write memory (20_memory.md R49): INC (HL), DEC (HL), LD (HL),d8, LD (HL),r,
PUSH, CALL cc and RST. -/
def storesByte (op : Nat) : Bool :=
  op == 0x34 || op == 0x35 || op == 0x36 || (0x70 ≤ op && op < 0x78 && op != 0x76) ||
    (0xC0 ≤ op && (op % 16 == 5 || op % 8 == 7)) || op == 0xC4 || op == 0xCC || op == 0xD4 || op == 0xDC

/-- The opcode bytes whose instructions may transfer control (41_execution_loop.md R124): JR, JR cc, RET cc, JP cc,
CALL cc and RST. -/
def transfersByte (op : Nat) : Bool :=
  op == 0x18 || (0x20 ≤ op && op < 0x40 && op % 8 == 0) ||
    (0xC0 ≤ op && op < 0xE0 && (op % 8 == 0 || op % 8 == 2 || op % 8 == 4)) || (0xC0 ≤ op && op % 8 == 7)

/-- The opcode bytes with a condition field at bits 4..3 (R67). -/
def conditionalByte (op : Nat) : Bool :=
  (0x20 ≤ op && op < 0x40 && op % 8 == 0) || (0xC0 ≤ op && op < 0xE0 && (op % 8 == 0 || op % 8 == 2 || op % 8 == 4))

/-- The opcode bytes whose instructions may write SP (10_state.md R22): LD SP,d16, INC SP, DEC SP, PUSH, POP, CALL cc,
RET cc and RST. -/
def movesStackByte (op : Nat) : Bool :=
  op == 0x31 || op == 0x33 || op == 0x3B || (0xC0 ≤ op && (op % 16 == 1 || op % 16 == 5 || op % 8 == 7)) ||
    (0xC0 ≤ op && op < 0xE0 && (op % 8 == 0 || op % 8 == 4))

/-- The cycles column of spec/opcode_table.json, one row of the opcode map each; for a conditional instruction the cost
when it is not taken. An unimplemented byte has no cost and stands as 0. -/
def tableCyclesRow : Nat → List Nat
  | 0 => [1, 3, 0, 2, 1, 1, 2, 0, 0, 0, 0, 2, 1, 1, 2, 0]
  | 1 => [0, 3, 0, 2, 1, 1, 2, 0, 3, 0, 0, 2, 1, 1, 2, 0]
  | 2 => [2, 3, 0, 2, 1, 1, 2, 0, 2, 0, 0, 2, 1, 1, 2, 0]
  | 3 => [2, 3, 0, 2, 3, 3, 3, 0, 2, 0, 0, 2, 1, 1, 2, 0]
  | 4 => [1, 1, 1, 1, 1, 1, 2, 1, 1, 1, 1, 1, 1, 1, 2, 1]
  | 5 => [1, 1, 1, 1, 1, 1, 2, 1, 1, 1, 1, 1, 1, 1, 2, 1]
  | 6 => [1, 1, 1, 1, 1, 1, 2, 1, 1, 1, 1, 1, 1, 1, 2, 1]
  | 7 => [2, 2, 2, 2, 2, 2, 1, 2, 1, 1, 1, 1, 1, 1, 2, 1]
  | 8 => [1, 1, 1, 1, 1, 1, 2, 1, 1, 1, 1, 1, 1, 1, 2, 1]
  | 9 => [1, 1, 1, 1, 1, 1, 2, 1, 1, 1, 1, 1, 1, 1, 2, 1]
  | 10 => [1, 1, 1, 1, 1, 1, 2, 1, 1, 1, 1, 1, 1, 1, 2, 1]
  | 11 => [1, 1, 1, 1, 1, 1, 2, 1, 1, 1, 1, 1, 1, 1, 2, 1]
  | 12 => [2, 3, 3, 0, 3, 4, 2, 4, 2, 0, 3, 0, 3, 0, 2, 4]
  | 13 => [2, 3, 3, 0, 3, 4, 2, 4, 2, 0, 3, 0, 3, 0, 2, 4]
  | 14 => [0, 3, 0, 0, 0, 4, 2, 4, 0, 0, 0, 0, 0, 0, 2, 4]
  | 15 => [0, 3, 0, 0, 0, 4, 2, 4, 0, 0, 0, 0, 0, 0, 2, 4]
  | _ => []

/-- What a taken conditional instruction costs more than a not-taken one: JR cc and JP cc 1, CALL cc and RET cc 3
(the table's taken and not-taken columns). -/
def takenExtra (op : Nat) : Nat := if op < 0x40 ∨ op % 8 = 2 then 1 else 3

/-- The cost of the instruction with opcode byte `op` in state `s`, from the table's columns. -/
def tableCost (op : Nat) (s : State) : Nat :=
  (tableCyclesRow (op / 16)).getD (op % 16) 0 +
    if conditionalByte op && condHolds s.f (condOf (op / 8 % 4)) then takenExtra op else 0

/-- The 50 unimplemented bytes, as R77 lists them. -/
def unimplementedBytes : List Nat :=
  [0x02, 0x07, 0x08, 0x09, 0x0A, 0x0F, 0x10, 0x12, 0x17, 0x19, 0x1A, 0x1F, 0x22, 0x27, 0x29, 0x2A, 0x2F, 0x32, 0x37,
    0x39, 0x3A, 0x3F] ++
  [0xC3, 0xC9, 0xCB, 0xCD, 0xD3, 0xD9, 0xDB, 0xDD, 0xE0, 0xE2, 0xE3, 0xE4, 0xE8, 0xE9, 0xEA, 0xEB, 0xEC, 0xED, 0xF0,
    0xF2, 0xF3, 0xF4, 0xF8, 0xF9, 0xFA, 0xFB, 0xFC, 0xFD]

end Sys2Proof.Machine

/-! ## Reset, the image and the run -/

/-- 10_state.md section 5: what reset leaves when no image is loaded. Every register is 0, the machine is not halted,
no fault is recorded and every byte of memory is 0. The counter's 0 is the spec's decision D19, the empty fault record
its D11; `instrBound` 0 with no image is the model's choice (log entry 2). -/
def Obligations.ResetIsAllZero : Prop :=
  State.reset.a = 0 ∧ State.reset.f = 0 ∧ State.reset.b = 0 ∧ State.reset.c = 0 ∧ State.reset.d = 0 ∧
  State.reset.e = 0 ∧ State.reset.h = 0 ∧ State.reset.l = 0 ∧ State.reset.sp = 0 ∧ State.reset.pc = 0 ∧
  State.reset.halted = false ∧ State.reset.cycles = 0 ∧ State.reset.fault = none ∧ State.reset.instrBound = 0 ∧
  ∀ x : Nat, State.reset.mem.read x = 0

/-- 70_reset_and_hazards.md section 1: reset with an image is refused exactly when the parameters or the image's length
are not admitted; else the registers are those of reset, `INSTR_BOUND` is N, and memory holds the image at 0 .. N − 1
and 0 elsewhere. `LOAD_BASE` 0 and the bound N are the spec's decisions D5 and D6; the range of `MEM_SIZE`
(00_scope.md section 4) and that of N are its D23 and D32. That reset answers `none` outside those ranges is the
model's choice (log entry 2). -/
def Obligations.ResetWithLoadsTheImage : Prop :=
  ∀ (cfg : Config) (image : List Byte),
    (State.resetWith cfg image = none ↔ ¬ (cfg.wellFormed ∧ 1 ≤ image.length ∧ image.length ≤ cfg.memSize)) ∧
    ∀ s : State, State.resetWith cfg image = some s →
      s = { State.reset with cfg := cfg, instrBound := image.length, mem := s.mem } ∧
      ∀ x : Nat, s.mem.read x = image.getD x 0

/-- 41_execution_loop.md section 1: a state is running or has exactly one of the three stops, by the conditions of
R121's table. The test `PC >= INSTR_BOUND` is the spec's decision D6. -/
def Obligations.EveryStateRunsOrHasOneStop : Prop :=
  ∀ s : State,
    (s.running = true ↔ s.fault = none ∧ s.halted = false ∧ s.pc.toNat < s.instrBound) ∧
    (s.stop = none ↔ s.running = true) ∧
    (s.stop = some .faulted ↔ s.fault ≠ none) ∧
    (s.stop = some .halted ↔ s.fault = none ∧ s.halted = true) ∧
    (s.stop = some .boundExit ↔ s.fault = none ∧ s.halted = false ∧ s.instrBound ≤ s.pc.toNat)

/-- In a state whose run has ended no instruction runs: halted or past the bound the step changes nothing, and with a
fault recorded it answers that fault. That the step answers the same state is the model's choice (log entry 3). -/
def Obligations.EndedRunIsFinal : Prop :=
  ∀ s : State,
    (s.stop = some .halted ∨ s.stop = some .boundExit → step s = .next s) ∧
    (∀ r : Fault, s.fault = some r → step s = .fault r)

/-- A step runs the decoded instruction: when the bytes at PC decode to a well-formed `i`, with `rest` the bytes not
used, and the bytes used are in bounds, the step of a running state is `exec i`. -/
def Obligations.StepRunsDecodedInstruction : Prop :=
  ∀ (s : State) (i : Instr) (rest : List Byte), s.running = true →
    decode (s.bytesAt s.pc 3) = .ok i rest → i.wellFormed = true →
    (∀ n < 3 - rest.length, s.inBounds (s.pc + BitVec.ofNat 16 n) = true) →
    step s = exec i s

/-- The first fault of a fetch wins, in the order opcode, first immediate, second immediate (20_memory.md section 4,
60_exceptions.md section 1; the order is the spec's decision D20, the check on fetches its D12). -/
def Obligations.FetchFaultsInAddressOrder : Prop :=
  ∀ s : State, s.running = true →
    (s.inBounds s.pc = false → step s = .fault (.memoryOutOfBounds s.pc .read)) ∧
    (s.inBounds s.pc = true → 1 ≤ immBytesOf (s.peek s.pc) → s.inBounds (s.pc + 1) = false →
      step s = .fault (.memoryOutOfBounds (s.pc + 1) .read)) ∧
    (s.inBounds s.pc = true → immBytesOf (s.peek s.pc) = 2 → s.inBounds (s.pc + 1) = true →
      s.inBounds (s.pc + 2) = false → step s = .fault (.memoryOutOfBounds (s.pc + 2) .read))

/-- R77 at a step: a running state whose PC is in bounds and holds one of the 50 bytes stops with
UnimplementedOpcode(op, a), whatever follows that byte, in bounds or not: no immediate is read. -/
def Obligations.UnimplementedByteStopsTheStep : Prop :=
  ∀ s : State, s.running = true → s.inBounds s.pc = true → (s.peek s.pc).toNat ∈ unimplementedBytes →
    step s = .fault (.unimplementedOpcode (s.peek s.pc) s.pc)

/-- R77 at an instruction: each of the 50 bytes decodes alone to a constructor of its own, which stops on every path
with UnimplementedOpcode, that byte and PC. -/
def Obligations.UnimplementedInstructionsStop : Prop :=
  unimplementedBytes.length = 50 ∧
  ∀ n ∈ unimplementedBytes, ∃ i, decode [BitVec.ofNat 8 n] = .ok i [] ∧ i.opcode.toNat = n ∧
    Instr.unimplemented n = some i ∧ ∀ s : State, exec i s = .fault (.unimplementedOpcode i.opcode s.pc)

/-- The loop records a step's fault, the state is then Faulted, and no further turn changes anything
(10_state.md section 4, 60_exceptions.md section 1; the record is the spec's decision D11). Nothing is said of any
other field: they are free (log entry 4). -/
def Obligations.LoopRecordsTheFaultForGood : Prop :=
  ∀ (s : State) (r : Fault), s.running = true → step s = .fault r →
    s.loopStep.fault = some r ∧ s.loopStep.stop = some .faulted ∧
    ∀ n : Nat, State.runLoop n s.loopStep = s.loopStep

/-- R31: the halt flag is false at start and set by HALT; no other instruction sets or clears it; while it is true the
execution loop runs nothing and PC does not advance; reset clears it. -/
def Obligations.OnlyHaltTouchesTheHaltFlag : Prop :=
  State.reset.halted = false ∧
  (∀ s : State, ∃ t, exec .halt s = .next t ∧ t.halted = true) ∧
  (∀ (i : Instr) (s t : State), i ≠ .halt → exec i s = .next t → t.halted = s.halted) ∧
  (∀ s : State, s.halted = true → s.running = false ∧ s.loopStep = s) ∧
  (∀ (cfg : Config) (image : List Byte) (s : State), State.resetWith cfg image = some s → s.halted = false)

/-! ## Encoding -/

/-- Decoding what an instruction encodes to gives it back, with whatever follows left over: no bit of an encoding is
dropped, for every instruction and every operand the encoding admits. -/
def Obligations.DecodeOfEncodeIsTheInstruction : Prop :=
  ∀ (i : Instr) (rest : List Byte), i.wellFormed = true → decode (encode i ++ rest) = .ok i rest

/-- What the decoder reads is well-formed, and encoding it gives back exactly the bytes read. -/
def Obligations.EncodeOfDecodeIsTheBytes : Prop :=
  ∀ (bytes rest : List Byte) (i : Instr), decode bytes = .ok i rest →
    i.wellFormed = true ∧ encode i ++ rest = bytes

/-- The decoder is total: three bytes always decode, to an instruction whose opcode is the first of them; and R76
answers `Unimplemented` for exactly the bytes R77 lists. Which bytes are implemented is the spec's decision D1. -/
def Obligations.ThreeBytesAlwaysDecode : Prop :=
  ∀ (op v w : Byte) (rest : List Byte),
    (∃ i left, decode (op :: v :: w :: rest) = .ok i left ∧ i.opcode = op) ∧
    (decodeImplemented op = none ↔ op.toNat ∈ unimplementedBytes)

/-- R72: byte 0x76 is HALT, and every other byte `01dddsss` is `LD R8[d], R8[s]`; the seven bytes with `d = s` load a
register into itself and change no state except PC and the cycle counter. -/
def Obligations.QuadrantOneDecodes : Prop :=
  decode [0x76] = .ok .halt [] ∧
  (∀ dst src : Reg8, decode [BitVec.ofNat 8 (0x40 + 8 * regCode dst + regCode src)] = .ok (Instr.ldRegReg dst src) []) ∧
  (∀ dst : Reg8, decode [BitVec.ofNat 8 (0x46 + 8 * regCode dst)] = .ok (Instr.ldRegAtHL dst) []) ∧
  (∀ src : Reg8, decode [BitVec.ofNat 8 (0x70 + regCode src)] = .ok (Instr.ldAtHLReg src) []) ∧
  (∀ (r : Reg8) (s : State), ∃ t, exec (Instr.ldRegReg r r) s = .next t ∧ t = { s with pc := t.pc, cycles := t.cycles })

/-- R44: a 16-bit immediate is little-endian, for LD rr,d16, JP cc and CALL cc alike; the document's scenario. -/
def Obligations.WideImmediatesAreLittleEndian : Prop :=
  (∀ (p : Pair16) (cc : Cond) (lo hi : Byte),
    decode [(Instr.ldPairImm p 0).opcode, lo, hi] = .ok (Instr.ldPairImm p (hiLo hi lo)) [] ∧
    decode [(Instr.jpCond cc 0).opcode, lo, hi] = .ok (Instr.jpCond cc (hiLo hi lo)) [] ∧
    decode [(Instr.callCond cc 0).opcode, lo, hi] = .ok (Instr.callCond cc (hiLo hi lo)) [] ∧
    (hiLo hi lo).toNat = hi.toNat * 256 + lo.toNat) ∧
  (decode [0x01, 0x34, 0x12] = .ok (.ldBC_D16 0x1234) [] ∧
    ∀ s : State, ∃ t, exec (.ldBC_D16 0x1234) s = .next t ∧ t.b = 0x12 ∧ t.c = 0x34)

/-- A few words of each quadrant decode as the spec reads them: the five bytes the document itself writes, and one of
each family beside them. -/
def Obligations.SampleWordsDecode : Prop :=
  decode [0x01, 0x34, 0x12] = .ok (.ldBC_D16 0x1234) [] ∧ decode [0x47] = .ok .ldB_A [] ∧
  decode [0xAA] = .ok .xorA_D [] ∧ decode [0xCE, 0x00] = .ok (.adcA_D8 0x00) [] ∧ decode [0x76] = .ok .halt [] ∧
  decode [0x18, 0xFB] = .ok (.jr (-5)) [] ∧ decode [0x34] = .ok .incAtHL [] ∧ decode [0xDF] = .ok .rst18 [] ∧
  decode [0xF1] = .ok .popAF [] ∧ decode [0xC4, 0x0E, 0x00] = .ok (.callNZ 0x000E) [] ∧
  decode [0xCB, 0x37] = .ok .unimplementedCB [0x37]

/-! ## The ALU and flag engine -/

/-- R101: `add`. -/
def Obligations.EngineAdd : Prop :=
  ∀ (a b : Byte) (cin : Bool),
    (aluAdd a b cin).res.toNat = (a.toNat + b.toNat + cin.toNat) % 256 ∧
    flagZ (aluAdd a b cin).flags = ((aluAdd a b cin).res == 0) ∧
    flagN (aluAdd a b cin).flags = false ∧
    flagH (aluAdd a b cin).flags = decide (a.toNat % 16 + b.toNat % 16 + cin.toNat > 15) ∧
    flagC (aluAdd a b cin).flags = decide (a.toNat + b.toNat + cin.toNat > 255) ∧
    (aluAdd a b cin).flags &&& 0x0F = 0 ∧
    (aluAdd a 0xFF true).res = a ∧ flagC (aluAdd a 0xFF true).flags = true

/-- R102: `sub`; with `b` = 0xFF and a carry-in, C is 1 for every `a`. -/
def Obligations.EngineSub : Prop :=
  ∀ (a b : Byte) (cin : Bool),
    (aluSub a b cin).res.toNat = (a.toNat + 512 - b.toNat - cin.toNat) % 256 ∧
    flagZ (aluSub a b cin).flags = ((aluSub a b cin).res == 0) ∧
    flagN (aluSub a b cin).flags = true ∧
    flagH (aluSub a b cin).flags = decide (a.toNat % 16 < b.toNat % 16 + cin.toNat) ∧
    flagC (aluSub a b cin).flags = decide (a.toNat < b.toNat + cin.toNat) ∧
    (aluSub a b cin).flags &&& 0x0F = 0 ∧
    flagC (aluSub a 0xFF true).flags = true

/-- R103, R104, R105: the bitwise operations, bit by bit, and their flag bytes. -/
def Obligations.EngineBitwise : Prop :=
  ∀ a b : Byte,
    (∀ k < 8, (aluAnd a b).res.getLsbD k = (a.getLsbD k && b.getLsbD k) ∧
      (aluOr a b).res.getLsbD k = (a.getLsbD k || b.getLsbD k) ∧
      (aluXor a b).res.getLsbD k = (a.getLsbD k ^^ b.getLsbD k)) ∧
    (aluAnd a b).flags.toNat = (if (aluAnd a b).res = 0 then 0xA0 else 0x20) ∧
    (aluOr a b).flags.toNat = (if (aluOr a b).res = 0 then 0x80 else 0x00) ∧
    (aluXor a b).flags.toNat = (if (aluXor a b).res = 0 then 0x80 else 0x00)

/-- R106: `compare` leaves the accumulator and gives the flags of `sub` with no carry-in, whatever C is; the caller
writes only F. -/
def Obligations.EngineCompare : Prop :=
  ∀ a b : Byte,
    (aluCompare a b).res = a ∧ (aluCompare a b).flags = (aluSub a b false).flags ∧
    (flagZ (aluCompare a b).flags = true ↔ a = b) ∧ (flagC (aluCompare a b).flags = true ↔ a.toNat < b.toNat) ∧
    ∀ s : State, s.applyAlu .cp b = { s with f := (aluSub s.a b false).flags }

/-- R110: a condition is Z or C read as the table says, for every flag byte, with the table's codes. -/
def Obligations.ConditionsReadZAndC : Prop :=
  condOf 0 = .nz ∧ condOf 1 = .z ∧ condOf 2 = .nc ∧ condOf 3 = .c ∧
  ∀ f : Byte,
    (condHolds f .nz = true ↔ f &&& 0x80 = 0) ∧ (condHolds f .z = true ↔ f &&& 0x80 = 0x80) ∧
    (condHolds f .nc = true ↔ f &&& 0x10 = 0) ∧ (condHolds f .c = true ↔ f &&& 0x10 = 0x10)

/-! ## Quadrant 0 -/

/-- NOP: PC and the counter move, nothing else changes. -/
def Obligations.NopOnlyAdvances : Prop :=
  CycleTable.reference.nop = 1 ∧
  ∀ s : State, exec .nop s =
    .next { s with pc := s.pc + 1, cycles := s.cycles + BitVec.ofNat 64 s.cfg.cycleTable.nop }

/-- LD rr,d16 for BC, DE, HL and SP: the pair reads as d16, no other register, flag or byte of memory changes. The
pair codes are the spec's decision D4. -/
def Obligations.LoadPairImmediate : Prop :=
  ∀ (p : Pair16) (d16 : Word) (s : State), ∃ t, exec (Instr.ldPairImm p d16) s = .next t ∧
    t.get16 p = d16 ∧ (∀ q, q ≠ p → t.get16 q = s.get16 q) ∧
    t = { s with b := t.b, c := t.c, d := t.d, e := t.e, h := t.h, l := t.l, sp := t.sp, pc := s.pc + 3,
                 cycles := s.cycles + BitVec.ofNat 64 s.cfg.cycleTable.ldPairImm }

/-- INC rr and DEC rr: the pair plus or minus 1 modulo 2^16, no flag written (the spec's decision D15), nothing else
changed. -/
def Obligations.IncDecPairKeepsFlags : Prop :=
  ∀ (p : Pair16) (s : State),
    (∃ t, exec (Instr.incPair p) s = .next t ∧ (t.get16 p).toNat = ((s.get16 p).toNat + 1) % 65536 ∧
      (∀ q, q ≠ p → t.get16 q = s.get16 q) ∧
      t = { s with b := t.b, c := t.c, d := t.d, e := t.e, h := t.h, l := t.l, sp := t.sp, pc := s.pc + 1,
                   cycles := s.cycles + BitVec.ofNat 64 s.cfg.cycleTable.incDecPair }) ∧
    (∃ t, exec (Instr.decPair p) s = .next t ∧ (t.get16 p).toNat = ((s.get16 p).toNat + 65535) % 65536 ∧
      (∀ q, q ≠ p → t.get16 q = s.get16 q) ∧
      t = { s with b := t.b, c := t.c, d := t.d, e := t.e, h := t.h, l := t.l, sp := t.sp, pc := s.pc + 1,
                   cycles := s.cycles + BitVec.ofNat 64 s.cfg.cycleTable.incDecPair })

/-- INC r and DEC r: the register and Z, N, H as `incSpec` and `decSpec` say, C kept (the spec's decision D14), no other
register and no memory changed. -/
def Obligations.IncDecRegister : Prop :=
  ∀ (r : Reg8) (s : State),
    (∃ t, exec (Instr.incReg r) s = .next t ∧
      (t.get8 r).toNat = (incSpec (s.get8 r).toNat (flagC s.f)).res ∧
      t.f.toNat = (incSpec (s.get8 r).toNat (flagC s.f)).byte ∧ (∀ q, q ≠ r → t.get8 q = s.get8 q) ∧
      t = { s with b := t.b, c := t.c, d := t.d, e := t.e, h := t.h, l := t.l, a := t.a, f := t.f, pc := s.pc + 1,
                   cycles := s.cycles + BitVec.ofNat 64 s.cfg.cycleTable.incDecReg }) ∧
    (∃ t, exec (Instr.decReg r) s = .next t ∧
      (t.get8 r).toNat = (decSpec (s.get8 r).toNat (flagC s.f)).res ∧
      t.f.toNat = (decSpec (s.get8 r).toNat (flagC s.f)).byte ∧ (∀ q, q ≠ r → t.get8 q = s.get8 q) ∧
      t = { s with b := t.b, c := t.c, d := t.d, e := t.e, h := t.h, l := t.l, a := t.a, f := t.f, pc := s.pc + 1,
                   cycles := s.cycles + BitVec.ofNat 64 s.cfg.cycleTable.incDecReg })

/-- INC (HL) and DEC (HL): with HL in bounds the byte at HL and the flags change as for a register, and no other byte
of memory and no register but F; with HL out of bounds the fault is that of the read. C kept and the H flag are the
spec's decision D14. -/
def Obligations.IncDecMemoryByte : Prop :=
  ∀ s : State, s.mem.wf →
    (s.inBounds s.hl = true → ∃ t, exec .incAtHL s = .next t ∧
      wroteByte s.hl (BitVec.ofNat 8 (incSpec (s.peek s.hl).toNat (flagC s.f)).res) s t ∧
      t.f.toNat = (incSpec (s.peek s.hl).toNat (flagC s.f)).byte ∧
      t = { s with f := t.f, mem := t.mem, pc := s.pc + 1,
                   cycles := s.cycles + BitVec.ofNat 64 s.cfg.cycleTable.incDecAtHL }) ∧
    (s.inBounds s.hl = true → ∃ t, exec .decAtHL s = .next t ∧
      wroteByte s.hl (BitVec.ofNat 8 (decSpec (s.peek s.hl).toNat (flagC s.f)).res) s t ∧
      t.f.toNat = (decSpec (s.peek s.hl).toNat (flagC s.f)).byte ∧
      t = { s with f := t.f, mem := t.mem, pc := s.pc + 1,
                   cycles := s.cycles + BitVec.ofNat 64 s.cfg.cycleTable.incDecAtHL }) ∧
    (s.inBounds s.hl = false → exec .incAtHL s = .fault (.memoryOutOfBounds s.hl .read) ∧
      exec .decAtHL s = .fault (.memoryOutOfBounds s.hl .read))

/-- LD r,d8: the register is d8 and nothing else but PC and the counter changes. -/
def Obligations.LoadRegisterImmediate : Prop :=
  ∀ (r : Reg8) (d8 : Byte) (s : State), ∃ t, exec (Instr.ldRegImm r d8) s = .next t ∧
    t.get8 r = d8 ∧ (∀ q, q ≠ r → t.get8 q = s.get8 q) ∧
    t = { s with b := t.b, c := t.c, d := t.d, e := t.e, h := t.h, l := t.l, a := t.a, pc := s.pc + 2,
                 cycles := s.cycles + BitVec.ofNat 64 s.cfg.cycleTable.ldRegImm }

/-- LD (HL),d8: the byte at HL is d8 and nothing else but PC and the counter changes; out of bounds the write faults.
The form's membership in quadrant 0 is the spec's decision D2. -/
def Obligations.StoreImmediate : Prop :=
  ∀ (d8 : Byte) (s : State), s.mem.wf →
    (s.inBounds s.hl = true → ∃ t, exec (.ldAtHL_D8 d8) s = .next t ∧ wroteByte s.hl d8 s t ∧
      t = { s with mem := t.mem, pc := s.pc + 2,
                   cycles := s.cycles + BitVec.ofNat 64 s.cfg.cycleTable.ldAtHLImm }) ∧
    (s.inBounds s.hl = false → exec (.ldAtHL_D8 d8) s = .fault (.memoryOutOfBounds s.hl .write))

/-- JR e and JR cc,e: taken, PC is `a + 2 + e` modulo 2^16; not taken, `a + 2`; nothing but PC and the counter changes.
The base `a + 2` is the spec's decision D8. -/
def Obligations.RelativeJumps : Prop :=
  ∀ (e : Int) (cc : Cond) (s : State),
    (∃ t, exec (.jr e) s = .next t ∧ (t.pc.toNat : Int) = ((s.pc.toNat : Int) + 2 + e) % 65536 ∧
      t = { s with pc := t.pc, cycles := s.cycles + BitVec.ofNat 64 s.cfg.cycleTable.jr }) ∧
    (condHolds s.f cc = true → ∃ t, exec (Instr.jrCond cc e) s = .next t ∧
      (t.pc.toNat : Int) = ((s.pc.toNat : Int) + 2 + e) % 65536 ∧
      t = { s with pc := t.pc, cycles := s.cycles + BitVec.ofNat 64 s.cfg.cycleTable.jrTaken }) ∧
    (condHolds s.f cc = false → exec (Instr.jrCond cc e) s =
      .next { s with pc := s.pc + 2, cycles := s.cycles + BitVec.ofNat 64 s.cfg.cycleTable.jrNotTaken })

/-- The offset byte of JR is read as signed and its jump is relative to the next instruction, from the bytes in memory:
a running state whose PC holds `18 b` steps to `a + 2 + b` for `b < 0x80` and to `a + 2 + b − 256` for
`b ≥ 0x80`, modulo 2^16. The base `a + 2` is the spec's decision D8. -/
def Obligations.RelativeJumpFromBytes : Prop :=
  ∀ s : State, s.running = true → s.inBounds s.pc = true → s.inBounds (s.pc + 1) = true → s.peek s.pc = 0x18 →
    ∃ t, step s = .next t ∧
      ((s.peek (s.pc + 1)).toNat < 128 → t.pc.toNat = (s.pc.toNat + 2 + (s.peek (s.pc + 1)).toNat) % 65536) ∧
      (128 ≤ (s.peek (s.pc + 1)).toNat →
        t.pc.toNat = (s.pc.toNat + 2 + (s.peek (s.pc + 1)).toNat + 65280) % 65536)

/-! ## Quadrant 1 -/

/-- LD r,r': encoding, effect, frame and cost. -/
def Obligations.LoadRegisterRegister : Prop :=
  CycleTable.reference.ldRegReg = 1 ∧
  ∀ (dst src : Reg8) (s : State),
    decode [BitVec.ofNat 8 (0x40 + 8 * regCode dst + regCode src)] = .ok (Instr.ldRegReg dst src) [] ∧
    ∃ t, exec (Instr.ldRegReg dst src) s = .next t ∧
      t.get8 dst = s.get8 src ∧ (∀ q, q ≠ dst → t.get8 q = s.get8 q) ∧
      t = { s with b := t.b, c := t.c, d := t.d, e := t.e, h := t.h, l := t.l, a := t.a, pc := s.pc + 1,
                   cycles := s.cycles + BitVec.ofNat 64 s.cfg.cycleTable.ldRegReg }

/-- LD r,(HL): encoding, effect, frame, fault and cost. The address is the old HL, also for LD H,(HL) and LD L,(HL). -/
def Obligations.LoadRegisterFromMemory : Prop :=
  CycleTable.reference.ldRegAtHL = 2 ∧
  ∀ (dst : Reg8) (s : State),
    decode [BitVec.ofNat 8 (0x46 + 8 * regCode dst)] = .ok (Instr.ldRegAtHL dst) [] ∧
    (s.inBounds s.hl = true → ∃ t, exec (Instr.ldRegAtHL dst) s = .next t ∧
      t.get8 dst = s.mem.read (s.h.toNat * 256 + s.l.toNat) ∧ (∀ q, q ≠ dst → t.get8 q = s.get8 q) ∧
      t = { s with b := t.b, c := t.c, d := t.d, e := t.e, h := t.h, l := t.l, a := t.a, pc := s.pc + 1,
                   cycles := s.cycles + BitVec.ofNat 64 s.cfg.cycleTable.ldRegAtHL }) ∧
    (s.inBounds s.hl = false → exec (Instr.ldRegAtHL dst) s = .fault (.memoryOutOfBounds s.hl .read))

/-- LD (HL),r: encoding, effect, frame, fault and cost. LD (HL),H and LD (HL),L store the halves of the address. -/
def Obligations.StoreRegister : Prop :=
  CycleTable.reference.ldAtHLReg = 2 ∧
  ∀ (src : Reg8) (s : State), s.mem.wf →
    decode [BitVec.ofNat 8 (0x70 + regCode src)] = .ok (Instr.ldAtHLReg src) [] ∧
    (s.inBounds s.hl = true → ∃ t, exec (Instr.ldAtHLReg src) s = .next t ∧ wroteByte s.hl (s.get8 src) s t ∧
      t = { s with mem := t.mem, pc := s.pc + 1,
                   cycles := s.cycles + BitVec.ofNat 64 s.cfg.cycleTable.ldAtHLReg }) ∧
    (s.inBounds s.hl = false → exec (Instr.ldAtHLReg src) s = .fault (.memoryOutOfBounds s.hl .write))

/-- HALT sets the halt flag and moves PC past itself; nothing else but the counter changes; the next step of that state
changes nothing (the model's choice, log entry 3). The PC and the cost are the spec's decisions D16 and D9. -/
def Obligations.HaltStopsTheMachine : Prop :=
  CycleTable.reference.halt = 1 ∧
  ∀ s : State, ∃ t, exec .halt s = .next t ∧
    t = { s with halted := true, pc := s.pc + 1,
                 cycles := s.cycles + BitVec.ofNat 64 s.cfg.cycleTable.halt } ∧
    (s.fault = none → t.stop = some .halted ∧ step t = .next t)

/-! ## Quadrant 2 and the immediate operations -/

/-- ADD, ADC, SUB, SBC, AND, XOR, OR and CP of A with a register: encoding, A, the flags, frame and cost. -/
def Obligations.AluWithRegister : Prop :=
  CycleTable.reference.aluReg = 1 ∧
  ∀ (o : AluOp) (src : Reg8) (s : State),
    decode [BitVec.ofNat 8 (0x80 + 8 * aluCode o + regCode src)] = .ok (Instr.aluReg o src) [] ∧
    ∃ t, exec (Instr.aluReg o src) s = .next t ∧ aluCompleted o (s.get8 src) 1 s.cfg.cycleTable.aluReg s t

/-- The same eight with the byte at HL: encoding, A, the flags, frame and cost in bounds, the fault out of bounds. -/
def Obligations.AluWithMemory : Prop :=
  CycleTable.reference.aluAtHL = 2 ∧
  ∀ (o : AluOp) (s : State),
    decode [BitVec.ofNat 8 (0x86 + 8 * aluCode o)] = .ok (Instr.aluAtHL o) [] ∧
    (s.inBounds s.hl = true → ∃ t, exec (Instr.aluAtHL o) s = .next t ∧
      aluCompleted o (s.peek s.hl) 1 s.cfg.cycleTable.aluAtHL s t) ∧
    (s.inBounds s.hl = false → exec (Instr.aluAtHL o) s = .fault (.memoryOutOfBounds s.hl .read))

/-- The same eight with an immediate byte. The byte table is general knowledge the spec adopts (its K5), the cost its
decision D24. -/
def Obligations.AluWithImmediate : Prop :=
  CycleTable.reference.aluImm = 2 ∧
  ∀ (o : AluOp) (d8 : Byte) (s : State),
    decode [BitVec.ofNat 8 (0xC6 + 8 * aluCode o), d8] = .ok (Instr.aluImm o d8) [] ∧
    ∃ t, exec (Instr.aluImm o d8) s = .next t ∧ aluCompleted o d8 2 s.cfg.cycleTable.aluImm s t

/-! ## Quadrant 3: control transfer and the stack -/

/-- RET cc: taken, PC is the word at SP and SP moves up by 2; not taken, PC passes the byte and SP does not move.
Nothing else but the counter changes. A stack byte out of bounds faults at the first such byte, low byte first. -/
def Obligations.ConditionalReturn : Prop :=
  CycleTable.reference.retTaken = 5 ∧ CycleTable.reference.retNotTaken = 2 ∧
  ∀ (cc : Cond) (s : State),
    decode [BitVec.ofNat 8 (0xC0 + 8 * condCode cc)] = .ok (Instr.retCond cc) [] ∧
    (condHolds s.f cc = true → s.inBounds s.sp = true → s.inBounds (s.sp + 1) = true →
      exec (Instr.retCond cc) s = .next { s with
        pc := stackTop s, sp := s.sp + 2, cycles := s.cycles + BitVec.ofNat 64 s.cfg.cycleTable.retTaken }) ∧
    (condHolds s.f cc = true → s.inBounds s.sp = false →
      exec (Instr.retCond cc) s = .fault (.memoryOutOfBounds s.sp .read)) ∧
    (condHolds s.f cc = true → s.inBounds s.sp = true → s.inBounds (s.sp + 1) = false →
      exec (Instr.retCond cc) s = .fault (.memoryOutOfBounds (s.sp + 1) .read)) ∧
    (condHolds s.f cc = false → exec (Instr.retCond cc) s = .next { s with
        pc := s.pc + 1, cycles := s.cycles + BitVec.ofNat 64 s.cfg.cycleTable.retNotTaken })

/-- JP cc,a16: PC is a16 when the condition holds and `a + 3` when not; nothing else but the counter changes, and it
never faults in its execution. -/
def Obligations.ConditionalJump : Prop :=
  CycleTable.reference.jpTaken = 4 ∧ CycleTable.reference.jpNotTaken = 3 ∧
  ∀ (cc : Cond) (a16 : Word) (s : State),
    decode [BitVec.ofNat 8 (0xC2 + 8 * condCode cc), loByte a16, hiByte a16] = .ok (Instr.jpCond cc a16) [] ∧
    exec (Instr.jpCond cc a16) s =
      if condHolds s.f cc then
        .next { s with pc := a16, cycles := s.cycles + BitVec.ofNat 64 s.cfg.cycleTable.jpTaken }
      else .next { s with pc := s.pc + 3, cycles := s.cycles + BitVec.ofNat 64 s.cfg.cycleTable.jpNotTaken }

/-- CALL cc,a16: taken, the return address `a + 3` is pushed and PC is a16; not taken, SP and memory are unchanged. A
stack byte out of bounds faults at the first such byte, high byte first. The return address is the spec's decision
D7. -/
def Obligations.ConditionalCall : Prop :=
  ∀ (cc : Cond) (a16 : Word) (s : State), s.mem.wf →
    (condHolds s.f cc = true → s.inBounds (s.sp - 1) = true → s.inBounds (s.sp - 2) = true →
      ∃ t, exec (Instr.callCond cc a16) s = .next t ∧ pushedWord (s.pc + 3) s t ∧
        t = { s with mem := t.mem, sp := s.sp - 2, pc := a16,
                     cycles := s.cycles + BitVec.ofNat 64 s.cfg.cycleTable.callTaken }) ∧
    (condHolds s.f cc = true → s.inBounds (s.sp - 1) = false →
      exec (Instr.callCond cc a16) s = .fault (.memoryOutOfBounds (s.sp - 1) .write)) ∧
    (condHolds s.f cc = true → s.inBounds (s.sp - 1) = true → s.inBounds (s.sp - 2) = false →
      exec (Instr.callCond cc a16) s = .fault (.memoryOutOfBounds (s.sp - 2) .write)) ∧
    (condHolds s.f cc = false → exec (Instr.callCond cc a16) s = .next { s with
        pc := s.pc + 3, cycles := s.cycles + BitVec.ofNat 64 s.cfg.cycleTable.callNotTaken })

/-- RST t: the return address `a + 1` is pushed and PC is `t * 8`; nothing else changes. A stack byte out of bounds
faults at the first such byte, high byte first. The return address is the spec's decision D7. -/
def Obligations.RestartCallsItsVector : Prop :=
  ∀ (t : Nat) (s : State), t < 8 → s.mem.wf →
    decode [BitVec.ofNat 8 (0xC7 + 8 * t)] = .ok (Instr.rst t) [] ∧
    (s.inBounds (s.sp - 1) = true → s.inBounds (s.sp - 2) = true →
      ∃ u, exec (Instr.rst t) s = .next u ∧ pushedWord (s.pc + 1) s u ∧
        u = { s with mem := u.mem, sp := s.sp - 2, pc := BitVec.ofNat 16 (t * 8),
                     cycles := s.cycles + BitVec.ofNat 64 s.cfg.cycleTable.rst }) ∧
    (s.inBounds (s.sp - 1) = false → exec (Instr.rst t) s = .fault (.memoryOutOfBounds (s.sp - 1) .write)) ∧
    (s.inBounds (s.sp - 1) = true → s.inBounds (s.sp - 2) = false →
      exec (Instr.rst t) s = .fault (.memoryOutOfBounds (s.sp - 2) .write))

/-- PUSH rr for BC, DE, HL and AF: the pair's high byte goes to SP − 1, its low byte to SP − 2, SP moves down by 2, and
no other byte, register or flag changes. A byte out of bounds faults, high byte first. -/
def Obligations.PushStoresThePair : Prop :=
  CycleTable.reference.push = 4 ∧
  ∀ (p : StackPair) (s : State), s.mem.wf →
    decode [BitVec.ofNat 8 (0xC5 + 16 * stackPairCode p)] = .ok (Instr.pushPair p) [] ∧
    (s.inBounds (s.sp - 1) = true → s.inBounds (s.sp - 2) = true →
      ∃ t, exec (Instr.pushPair p) s = .next t ∧ pushedWord (s.getStackPair p) s t ∧
        t = { s with mem := t.mem, sp := s.sp - 2, pc := s.pc + 1,
                     cycles := s.cycles + BitVec.ofNat 64 s.cfg.cycleTable.push }) ∧
    (s.inBounds (s.sp - 1) = false → exec (Instr.pushPair p) s = .fault (.memoryOutOfBounds (s.sp - 1) .write)) ∧
    (s.inBounds (s.sp - 1) = true → s.inBounds (s.sp - 2) = false →
      exec (Instr.pushPair p) s = .fault (.memoryOutOfBounds (s.sp - 2) .write))

/-- POP rr for BC, DE and HL: the pair is the word at SP and SP moves up by 2; F, A, memory and the other pairs are
unchanged. A byte out of bounds faults, low byte first (also for POP AF). -/
def Obligations.PopLoadsThePair : Prop :=
  CycleTable.reference.pop = 3 ∧
  ∀ (p : StackPair) (s : State),
    decode [BitVec.ofNat 8 (0xC1 + 16 * stackPairCode p)] = .ok (Instr.popPair p) [] ∧
    (p ≠ .af → s.inBounds s.sp = true → s.inBounds (s.sp + 1) = true →
      ∃ t, exec (Instr.popPair p) s = .next t ∧ t.getStackPair p = stackTop s ∧
        (∀ q, q ≠ p → t.getStackPair q = s.getStackPair q) ∧
        t = { s with b := t.b, c := t.c, d := t.d, e := t.e, h := t.h, l := t.l, sp := s.sp + 2, pc := s.pc + 1,
                     cycles := s.cycles + BitVec.ofNat 64 s.cfg.cycleTable.pop }) ∧
    (s.inBounds s.sp = false → exec (Instr.popPair p) s = .fault (.memoryOutOfBounds s.sp .read)) ∧
    (s.inBounds s.sp = true → s.inBounds (s.sp + 1) = false →
      exec (Instr.popPair p) s = .fault (.memoryOutOfBounds (s.sp + 1) .read))

/-- POP AF: A is the byte at SP + 1 and F the byte at SP, its bits 3..0 cleared exactly when `POP_AF_MASKS_F` (the
spec's decision D13); SP moves up by 2 and nothing else changes. -/
def Obligations.PopAFLoadsFlags : Prop :=
  ∀ s : State, s.inBounds s.sp = true → s.inBounds (s.sp + 1) = true →
    ∃ t, exec .popAF s = .next t ∧ t.a = s.peek (s.sp + 1) ∧
      (s.cfg.popAfMasksF = true → t.f.toNat = (s.peek s.sp).toNat / 16 * 16) ∧
      (s.cfg.popAfMasksF = false → t.f = s.peek s.sp) ∧
      t = { s with a := t.a, f := t.f, sp := s.sp + 2, pc := s.pc + 1,
                   cycles := s.cycles + BitVec.ofNat 64 s.cfg.cycleTable.pop }

/-- PUSH and then POP of the same pair: the pair and SP end as they were. For AF under `POP_AF_MASKS_F` it needs
F[3:0] = 0, which the invariant gives (the masking is the spec's decision D13). -/
def Obligations.PushPopRoundTrip : Prop :=
  ∀ (p : StackPair) (s : State), s.Inv → s.inBounds (s.sp - 1) = true → s.inBounds (s.sp - 2) = true →
    ∃ t u, exec (Instr.pushPair p) s = .next t ∧ exec (Instr.popPair p) t = .next u ∧
      u.getStackPair p = s.getStackPair p ∧ u.sp = s.sp

/-- R47: `Push16` and `Pop16` with their bytes in bounds, whatever is done after them: SP by 2 in total, the bytes and
their order, and popping after pushing gives the value back with SP as it was. -/
def Obligations.StackPrimitives : Prop :=
  ∀ (s : State) (v : Word), s.mem.wf →
    (s.inBounds (s.sp - 1) = true → s.inBounds (s.sp - 2) = true →
      ∃ t, (∀ k : State → Result, s.push16Then v k = k t) ∧ pushedWord v s t ∧
        t = { s with mem := t.mem, sp := s.sp - 2 } ∧
        ∀ k : Word → State → Result, t.pop16Then k = k v { t with sp := s.sp }) ∧
    (s.inBounds s.sp = true → s.inBounds (s.sp + 1) = true → ∀ k : Word → State → Result,
      s.pop16Then k = k (stackTop s) { s with sp := s.sp + 2 })

/-! ## The whole machine -/

/-- Every step keeps the invariant: memory canonical and inside 0 .. `MEM_SIZE − 1`, and bits 3..0 of F zero when POP AF
masks them (the masking is the spec's decision D13). -/
def Obligations.StepKeepsTheInvariant : Prop :=
  ∀ s t : State, s.Inv → step s = .next t → t.Inv

/-- The reset state meets the invariant. -/
def Obligations.ResetMeetsTheInvariant : Prop := State.reset.Inv

/-- Reset with any admitted parameters and image meets the invariant. -/
def Obligations.ResetWithMeetsTheInvariant : Prop :=
  ∀ (cfg : Config) (image : List Byte) (s : State), State.resetWith cfg image = some s → s.Inv

/-- F is written by the instructions of R27's table and by no other; and after any of them but POP AF its bits 3..0 are
zero, whatever they were before. INC rr and DEC rr writing no flag is the spec's decision D15. -/
def Obligations.OnlyFlagWritersChangeF : Prop :=
  ∀ (i : Instr) (s t : State), exec i s = .next t →
    (writesFlagsByte i.opcode.toNat = false → t.f = s.f) ∧
    (writesFlagsByte i.opcode.toNat = true → i ≠ .popAF → t.f &&& 0x0F = 0)

/-- Memory is changed by INC (HL), DEC (HL), LD (HL),d8, LD (HL),r, PUSH, CALL cc and RST, and by no other
instruction. -/
def Obligations.OnlyStoringFormsChangeMemory : Prop :=
  ∀ (i : Instr) (s t : State), exec i s = .next t → storesByte i.opcode.toNat = false → t.mem = s.mem

/-- SP is changed by LD SP,d16, INC SP, DEC SP, PUSH, POP, CALL cc, RET cc and RST, and by no other instruction. -/
def Obligations.OnlyStackFormsMoveSP : Prop :=
  ∀ (i : Instr) (s t : State), exec i s = .next t → movesStackByte i.opcode.toNat = false → t.sp = s.sp

/-- No instruction changes the fault record or the run's parameters. That the parameters stand in the state is the
model's choice (log entries 1, 2). -/
def Obligations.ParametersAndRecordStay : Prop :=
  ∀ (i : Instr) (s t : State), exec i s = .next t →
    t.fault = s.fault ∧ t.instrBound = s.instrBound ∧ t.cfg = s.cfg

/-- An instruction that cannot transfer control leaves PC at `a + len` modulo 2^16, and a conditional one does so when
its condition is false. One assignment per step is the spec's decision D7. -/
def Obligations.UntakenInstructionsAdvance : Prop :=
  ∀ (i : Instr) (s t : State), exec i s = .next t →
    (transfersByte i.opcode.toNat = false ∨
      (conditionalByte i.opcode.toNat = true ∧ condHolds s.f (condOf (i.opcode.toNat / 8 % 4)) = false)) →
    t.pc.toNat = (s.pc.toNat + i.length) % 65536

/-- Under the default cycle table (the spec's decision D9) every completed instruction adds to the counter, modulo 2^64,
what the cycles columns of spec/opcode_table.json give its byte: the taken cost when its condition holds. -/
def Obligations.CyclesFollowTheOpcodeTable : Prop :=
  ∀ (i : Instr) (s t : State), s.cfg.cycleTable = CycleTable.reference → exec i s = .next t →
    t.cycles.toNat = (s.cycles.toNat + tableCost i.opcode.toNat s) % 2 ^ 64

/-- R332: timing drives nothing but the cycle counter. From a state with another counter value and another cycle table a
step has the same outcome, the same in every field but those two; and with another counter value alone the counter moves
by the same amount. -/
def Obligations.TimingDrivesOnlyTheCounter : Prop :=
  ∀ (s : State) (n : BitVec 64),
    (∀ ct : CycleTable,
      match step s, step { s with cycles := n, cfg := { s.cfg with cycleTable := ct } } with
      | .next t, .next t' => t' = { t with cycles := t'.cycles, cfg := { t.cfg with cycleTable := ct } }
      | .fault r, .fault r' => r = r'
      | _, _ => False) ∧
    (∀ t, step s = .next t → step { s with cycles := n } = .next { t with cycles := n + (t.cycles - s.cycles) })

/-- R300: what an instruction's execution may fault with, and why: UnimplementedOpcode with its own byte, one of the 50,
and PC; MemoryOutOfBounds at an address at or above `MEM_SIZE`; and nothing is refused. -/
def Obligations.EveryFaultHasItsCause : Prop :=
  ∀ (i : Instr) (s : State),
    (∀ r : Fault, exec i s = .fault r →
      (r = .unimplementedOpcode i.opcode s.pc ∧ Instr.unimplemented i.opcode.toNat = some i) ∨
      (∃ addr dir, r = .memoryOutOfBounds addr dir ∧ s.cfg.memSize ≤ addr.toNat)) ∧
    ∀ q : Refusal, exec i s ≠ .refused q

/-- R303: no byte can raise InvalidSelector: no step of a state without a fault record answers it. No step is refused
either. -/
def Obligations.InvalidSelectorIsNeverRaised : Prop :=
  ∀ s : State, (s.fault = none → step s ≠ .fault .invalidSelector) ∧ ∀ q : Refusal, step s ≠ .refused q

/-- 20_memory.md section 4: a store into the byte the next step fetches is what that step executes, here for LD (HL),r
and any byte that is a one-byte instruction. -/
def Obligations.StoreIntoNextInstructionIsExecuted : Prop :=
  ∀ (src : Reg8) (s t : State) (i : Instr), s.mem.wf → s.hl = s.pc + 1 →
    exec (Instr.ldAtHLReg src) s = .next t → t.running = true → decode [s.get8 src] = .ok i [] →
    step t = exec i t

/-- A conditional jump, call or return that is not taken leaves SP and memory alone and, under the default table (the
spec's decision D9), costs strictly less than the same instruction taken. -/
def Obligations.NotTakenIsCheaperAndHarmless : Prop :=
  ∀ (i : Instr) (s t : State), conditionalByte i.opcode.toNat = true →
    condHolds s.f (condOf (i.opcode.toNat / 8 % 4)) = false → exec i s = .next t →
    t = { s with pc := t.pc, cycles := t.cycles } ∧
    (s.cfg.cycleTable = CycleTable.reference → ∀ s' t' : State, s'.cfg.cycleTable = CycleTable.reference →
      condHolds s'.f (condOf (i.opcode.toNat / 8 % 4)) = true → exec i s' = .next t' →
      (t.cycles - s.cycles).toNat < (t'.cycles - s'.cycles).toNat)
end

