-- ==== Sys2Proof/Laws/Bytes.lean ====
section
/-! SUPPORT. Splitting a word into its bytes and joining them again (00_scope.md R10, 10_state.md R21). -/

namespace Sys2Proof

/-- `hi:lo` is `hi * 256 + lo` (R10). -/
theorem hiLo_toNat (hi lo : Byte) : (hiLo hi lo).toNat = hi.toNat * 256 + lo.toNat := by
  have h := lo.isLt
  rw [hiLo, BitVec.toNat_append, ← Nat.shiftLeft_add_eq_or_of_lt h, Nat.shiftLeft_eq]

theorem hiByte_toNat (v : Word) : (hiByte v).toNat = v.toNat / 256 := by
  have h := v.isLt
  rw [hiByte, BitVec.extractLsb'_toNat, Nat.shiftRight_eq_div_pow]
  omega

theorem loByte_toNat (v : Word) : (loByte v).toNat = v.toNat % 256 := by
  rw [loByte, BitVec.extractLsb'_toNat, Nat.shiftRight_zero]

@[simp] theorem hiByte_hiLo (hi lo : Byte) : hiByte (hiLo hi lo) = hi := by
  have h := lo.isLt
  apply BitVec.eq_of_toNat_eq
  rw [hiByte_toNat, hiLo_toNat]
  omega

@[simp] theorem loByte_hiLo (hi lo : Byte) : loByte (hiLo hi lo) = lo := by
  have h := lo.isLt
  apply BitVec.eq_of_toNat_eq
  rw [loByte_toNat, hiLo_toNat]
  omega

/-- A word is its bytes joined (R21). -/
@[simp] theorem hiLo_hiByte_loByte (v : Word) : hiLo (hiByte v) (loByte v) = v := by
  apply BitVec.eq_of_toNat_eq
  rw [hiLo_toNat, hiByte_toNat, loByte_toNat]
  omega

end Sys2Proof
end

