-- ==== Sys2Proof/Laws/Ops.lean ====
section
/-! SUPPORT. What each operation of Ops.lean can do, once: with its accesses in bounds it goes on with one given value
or state, else it faults; and so when it answers a next state, a fault or a refusal. -/

namespace Sys2Proof.Machine

variable {s t : State} {addr : Word} {v : Byte} {r : Fault} {q : Refusal}

theorem State.inBounds_iff : s.inBounds addr = true ↔ addr.toNat < s.cfg.memSize := by simp [State.inBounds]

theorem State.not_inBounds_iff : s.inBounds addr = false ↔ s.cfg.memSize ≤ addr.toNat := by simp [State.inBounds]

/-- The bounds check reads the parameters alone. -/
theorem State.inBounds_of_cfg (h : t.cfg = s.cfg) : t.inBounds addr = s.inBounds addr := by
  simp [State.inBounds, h]

/-! ## One load -/

theorem State.loadThen_ok (h : s.inBounds addr = true) (k : Byte → Result) : s.loadThen addr k = k (s.peek addr) :=
  if_pos h

theorem State.loadThen_out (h : s.inBounds addr = false) (k : Byte → Result) :
    s.loadThen addr k = .fault (.memoryOutOfBounds addr .read) := by
  unfold State.loadThen
  rw [h]
  rfl

theorem State.loadThen_next {k : Byte → Result} :
    s.loadThen addr k = .next t ↔ s.inBounds addr = true ∧ k (s.peek addr) = .next t := by
  cases h : s.inBounds addr
  · simp [State.loadThen_out h]
  · simp [State.loadThen_ok h]

theorem State.loadThen_fault {k : Byte → Result} :
    s.loadThen addr k = .fault r ↔
      (s.inBounds addr = true ∧ k (s.peek addr) = .fault r) ∨
      (s.inBounds addr = false ∧ r = .memoryOutOfBounds addr .read) := by
  cases h : s.inBounds addr
  · simp [State.loadThen_out h, eq_comm]
  · simp [State.loadThen_ok h]

theorem State.loadThen_refused {k : Byte → Result} :
    s.loadThen addr k = .refused q ↔ s.inBounds addr = true ∧ k (s.peek addr) = .refused q := by
  cases h : s.inBounds addr
  · simp [State.loadThen_out h]
  · simp [State.loadThen_ok h]

/-! ## One store -/

theorem State.storeThen_ok (h : s.inBounds addr = true) (v : Byte) (k : State → Result) :
    s.storeThen addr v k = k (s.poke addr v) := if_pos h

theorem State.storeThen_out (h : s.inBounds addr = false) (v : Byte) (k : State → Result) :
    s.storeThen addr v k = .fault (.memoryOutOfBounds addr .write) := by
  unfold State.storeThen
  rw [h]
  rfl

theorem State.storeThen_next {k : State → Result} :
    s.storeThen addr v k = .next t ↔ s.inBounds addr = true ∧ k (s.poke addr v) = .next t := by
  cases h : s.inBounds addr
  · simp [State.storeThen_out h]
  · simp [State.storeThen_ok h]

theorem State.storeThen_fault {k : State → Result} :
    s.storeThen addr v k = .fault r ↔
      (s.inBounds addr = true ∧ k (s.poke addr v) = .fault r) ∨
      (s.inBounds addr = false ∧ r = .memoryOutOfBounds addr .write) := by
  cases h : s.inBounds addr
  · simp [State.storeThen_out h, eq_comm]
  · simp [State.storeThen_ok h]

theorem State.storeThen_refused {k : State → Result} :
    s.storeThen addr v k = .refused q ↔ s.inBounds addr = true ∧ k (s.poke addr v) = .refused q := by
  cases h : s.inBounds addr
  · simp [State.storeThen_out h]
  · simp [State.storeThen_ok h]

/-! ## The stack -/

theorem Word.sub_one_sub_one (w : Word) : w - 1 - 1 = w - 2 := by
  rw [BitVec.sub_sub]
  rfl

theorem Word.add_one_add_one (w : Word) : w + 1 + 1 = w + 2 := by
  rw [BitVec.add_assoc]
  rfl

/-- The state `Push16` leaves (R47). -/
def State.pushed (s : State) (w : Word) : State :=
  { s with
    sp := s.sp - 2
    mem := (s.mem.write (s.sp - 1).toNat (hiByte w)).write (s.sp - 2).toNat (loByte w) }

/-! ### The fields of the pushed state -/

@[simp] theorem State.pushed_a (s : State) (w : Word) : (s.pushed w).a = s.a := rfl
@[simp] theorem State.pushed_f (s : State) (w : Word) : (s.pushed w).f = s.f := rfl
@[simp] theorem State.pushed_b (s : State) (w : Word) : (s.pushed w).b = s.b := rfl
@[simp] theorem State.pushed_c (s : State) (w : Word) : (s.pushed w).c = s.c := rfl
@[simp] theorem State.pushed_d (s : State) (w : Word) : (s.pushed w).d = s.d := rfl
@[simp] theorem State.pushed_e (s : State) (w : Word) : (s.pushed w).e = s.e := rfl
@[simp] theorem State.pushed_h (s : State) (w : Word) : (s.pushed w).h = s.h := rfl
@[simp] theorem State.pushed_l (s : State) (w : Word) : (s.pushed w).l = s.l := rfl
@[simp] theorem State.pushed_pc (s : State) (w : Word) : (s.pushed w).pc = s.pc := rfl
@[simp] theorem State.pushed_halted (s : State) (w : Word) : (s.pushed w).halted = s.halted := rfl
@[simp] theorem State.pushed_cycles (s : State) (w : Word) : (s.pushed w).cycles = s.cycles := rfl
@[simp] theorem State.pushed_fault (s : State) (w : Word) : (s.pushed w).fault = s.fault := rfl
@[simp] theorem State.pushed_instrBound (s : State) (w : Word) : (s.pushed w).instrBound = s.instrBound := rfl
@[simp] theorem State.pushed_cfg (s : State) (w : Word) : (s.pushed w).cfg = s.cfg := rfl
@[simp] theorem State.pushed_sp (s : State) (w : Word) : (s.pushed w).sp = s.sp - 2 := rfl

theorem State.push16Then_ok {w : Word} (h1 : s.inBounds (s.sp - 1) = true) (h2 : s.inBounds (s.sp - 2) = true)
    (k : State → Result) : s.push16Then w k = k (s.pushed w) := by
  unfold State.push16Then State.pushByteThen
  rw [State.storeThen_ok (s := { s with sp := s.sp - 1 }) h1]
  have h3 : State.inBounds
      { State.poke { s with sp := s.sp - 1 } (s.sp - 1) (hiByte w) with sp := s.sp - 1 - 1 } (s.sp - 1 - 1) = true := by
    rw [Word.sub_one_sub_one]
    exact h2
  refine (State.storeThen_ok h3 _ k).trans ?_
  congr 1
  simp only [State.pushed, State.poke, Word.sub_one_sub_one]

theorem State.push16Then_out_high {w : Word} (h1 : s.inBounds (s.sp - 1) = false) (k : State → Result) :
    s.push16Then w k = .fault (.memoryOutOfBounds (s.sp - 1) .write) := by
  unfold State.push16Then State.pushByteThen
  exact State.storeThen_out (s := { s with sp := s.sp - 1 }) h1 _ _

theorem State.push16Then_out_low {w : Word} (h1 : s.inBounds (s.sp - 1) = true)
    (h2 : s.inBounds (s.sp - 2) = false) (k : State → Result) :
    s.push16Then w k = .fault (.memoryOutOfBounds (s.sp - 2) .write) := by
  unfold State.push16Then State.pushByteThen
  rw [State.storeThen_ok (s := { s with sp := s.sp - 1 }) h1]
  have h3 : State.inBounds
      { State.poke { s with sp := s.sp - 1 } (s.sp - 1) (hiByte w) with sp := s.sp - 1 - 1 } (s.sp - 1 - 1) = false := by
    rw [Word.sub_one_sub_one]
    exact h2
  rw [← Word.sub_one_sub_one]
  exact State.storeThen_out h3 _ k

/-- `Push16` goes on with the pushed state, or faults at one of its two bytes. -/
theorem State.push16Then_cases (s : State) (w : Word) :
    (s.inBounds (s.sp - 1) = true ∧ s.inBounds (s.sp - 2) = true ∧ ∀ k, s.push16Then w k = k (s.pushed w)) ∨
    ∃ addr, s.inBounds addr = false ∧ ∀ k, s.push16Then w k = .fault (.memoryOutOfBounds addr .write) := by
  cases h1 : s.inBounds (s.sp - 1)
  · exact .inr ⟨_, h1, State.push16Then_out_high h1⟩
  · cases h2 : s.inBounds (s.sp - 2)
    · exact .inr ⟨_, h2, State.push16Then_out_low h1 h2⟩
    · exact .inl ⟨rfl, rfl, State.push16Then_ok h1 h2⟩

theorem State.pop16Then_ok (h1 : s.inBounds s.sp = true) (h2 : s.inBounds (s.sp + 1) = true)
    (k : Word → State → Result) :
    s.pop16Then k = k (hiLo (s.peek (s.sp + 1)) (s.peek s.sp)) { s with sp := s.sp + 2 } := by
  unfold State.pop16Then State.popByteThen
  rw [State.loadThen_ok h1]
  refine (State.loadThen_ok (s := { s with sp := s.sp + 1 }) h2 _).trans ?_
  rw [← Word.add_one_add_one]
  rfl

theorem State.pop16Then_out_low (h1 : s.inBounds s.sp = false) (k : Word → State → Result) :
    s.pop16Then k = .fault (.memoryOutOfBounds s.sp .read) := by
  unfold State.pop16Then State.popByteThen
  exact State.loadThen_out h1 _

theorem State.pop16Then_out_high (h1 : s.inBounds s.sp = true) (h2 : s.inBounds (s.sp + 1) = false)
    (k : Word → State → Result) : s.pop16Then k = .fault (.memoryOutOfBounds (s.sp + 1) .read) := by
  unfold State.pop16Then State.popByteThen
  rw [State.loadThen_ok h1]
  exact State.loadThen_out (s := { s with sp := s.sp + 1 }) h2 _

/-- `Pop16` goes on with the word at SP and SP + 2, or faults at one of its two bytes. -/
theorem State.pop16Then_cases (s : State) :
    (s.inBounds s.sp = true ∧ s.inBounds (s.sp + 1) = true ∧
      ∀ k, s.pop16Then k = k (hiLo (s.peek (s.sp + 1)) (s.peek s.sp)) { s with sp := s.sp + 2 }) ∨
    ∃ addr, s.inBounds addr = false ∧ ∀ k, s.pop16Then k = .fault (.memoryOutOfBounds addr .read) := by
  cases h1 : s.inBounds s.sp
  · exact .inr ⟨_, h1, State.pop16Then_out_low h1⟩
  · cases h2 : s.inBounds (s.sp + 1)
    · exact .inr ⟨_, h2, State.pop16Then_out_high h1 h2⟩
    · exact .inl ⟨rfl, rfl, State.pop16Then_ok h1 h2⟩

end Sys2Proof.Machine
end

