-- ==== Sys2Proof/Laws/Decode.lean ====
section
/-! SUPPORT. The opcode byte alone decides (30_encoding.md R61, R76, R77): every byte has a template, exactly the 50
have no instruction in R76, and so a fetch reads its bytes in order and never answers a refusal of its own. -/

namespace Sys2Proof

/-- Every byte has a template, so `decode` never answers `unknownOpcode` (R76, R77). -/
theorem decodeOpcode_isSome (op : Byte) : (decodeOpcode op).isSome = true := by
  have h : ∀ o : Byte, (decodeOpcode o).isSome = true := by decide
  exact h op

/-- A byte is in R77's list exactly when R76 answers `Unimplemented`. -/
theorem unimplemented_isSome_iff (op : Byte) :
    (Instr.unimplemented op.toNat).isSome = (decodeImplemented op).isNone := by
  have h : ∀ o : Byte, (Instr.unimplemented o.toNat).isSome = (decodeImplemented o).isNone := by decide
  exact h op

/-- No more than two immediate bytes follow an opcode (R61). -/
theorem immBytesOf_le_two (op : Byte) : immBytesOf op ≤ 2 := by
  have h : ∀ o : Byte, immBytesOf o ≤ 2 := by decide
  exact h op

/-- As many bytes as the opcode asks for, and more after them, decode to one instruction, the rest left over. -/
theorem decode_of_length (op : Byte) (imms : List Byte) (h : imms.length = immBytesOf op) :
    ∃ i, ∀ rest, decode (op :: imms ++ rest) = .ok i rest := by
  obtain ⟨t, ht⟩ := Option.isSome_iff_exists.1 (decodeOpcode_isSome op)
  have hn : immBytesOf op = t.immBytes := by simp [immBytesOf, ht]
  rw [hn] at h
  cases t with
  | plain i => exact ⟨i, fun rest => by simp [decode, ht, Template.complete, List.length_eq_zero_iff.1 h]⟩
  | imm8 k =>
    obtain ⟨v, rfl⟩ := List.length_eq_one_iff.1 h
    exact ⟨k v, fun rest => by simp [decode, ht, Template.complete]⟩
  | imm16 k =>
    obtain ⟨lo, hi, rfl⟩ := List.length_eq_two.1 h
    exact ⟨k (hiLo hi lo), fun rest => by simp [decode, ht, Template.complete]⟩

namespace Machine

/-- Reading `n` bytes goes on with them, or faults at one of them. -/
theorem State.loadListThen_cases (s : State) (addr : Word) (n : Nat) :
    (∀ k, s.loadListThen addr n k = k (s.bytesAt addr n)) ∨
    ∃ bad, s.inBounds bad = false ∧ ∀ k, s.loadListThen addr n k = .fault (.memoryOutOfBounds bad .read) := by
  induction n generalizing addr with
  | zero => exact .inl fun _ => rfl
  | succ n ih =>
    cases h : s.inBounds addr
    · exact .inr ⟨addr, h, fun _ => State.loadThen_out h _⟩
    · rcases ih (addr + 1) with hk | ⟨bad, hb, hk⟩
      · exact .inl fun k => (State.loadThen_ok h _).trans (hk _)
      · exact .inr ⟨bad, hb, fun k => (State.loadThen_ok h _).trans (hk _)⟩

theorem State.bytesAt_length (s : State) (addr : Word) (n : Nat) : (s.bytesAt addr n).length = n := by
  induction n generalizing addr with
  | zero => rfl
  | succ n ih => simp [State.bytesAt, ih]

/-- A fetch goes on with one instruction, the one its bytes decode to, or faults out of bounds; it never refuses. -/
theorem State.fetchThen_cases (s : State) :
    (∃ i, decode (s.bytesAt s.pc (immBytesOf (s.peek s.pc) + 1)) = .ok i [] ∧ ∀ k, s.fetchThen k = k i) ∨
    ∃ bad, s.inBounds bad = false ∧ ∀ k, s.fetchThen k = .fault (.memoryOutOfBounds bad .read) := by
  cases h : s.inBounds s.pc
  · exact .inr ⟨_, h, fun _ => State.loadThen_out h _⟩
  · obtain ⟨i, hi⟩ := decode_of_length (s.peek s.pc) (s.bytesAt (s.pc + 1) (immBytesOf (s.peek s.pc)))
      (State.bytesAt_length _ _ _)
    have hd := hi []
    rw [List.append_nil] at hd
    rcases s.loadListThen_cases (s.pc + 1) (immBytesOf (s.peek s.pc)) with hk | ⟨bad, hb, hk⟩
    · refine .inl ⟨i, hd, fun k => ?_⟩
      unfold State.fetchThen
      rw [State.loadThen_ok h, hk, hd]
    · refine .inr ⟨bad, hb, fun k => ?_⟩
      unfold State.fetchThen
      rw [State.loadThen_ok h, hk]

end Machine

end Sys2Proof
end

