-- ==== Sys2Proof/Laws/Flags.lean ====
section
/-! SUPPORT. The flag byte: reading a flag of a built one, its low nibble, and that every engine function's flag byte is
a built one (10_state.md R25, R26; 40_alu_flag_engine.md R100). -/

namespace Sys2Proof.Machine

section FlagsByte

variable (z n h c : Bool)

@[simp] theorem flagZ_flagsByte : flagZ (flagsByte z n h c) = z := by revert z n h c; decide
@[simp] theorem flagN_flagsByte : flagN (flagsByte z n h c) = n := by revert z n h c; decide
@[simp] theorem flagH_flagsByte : flagH (flagsByte z n h c) = h := by revert z n h c; decide
@[simp] theorem flagC_flagsByte : flagC (flagsByte z n h c) = c := by revert z n h c; decide

/-- Bits 3..0 of a built flag byte are zero (R26). -/
@[simp] theorem flagsByte_low : flagsByte z n h c &&& 0x0F = 0 := by revert z n h c; decide

end FlagsByte

/-- The low nibble is the remainder by 16. -/
theorem lowNibble_eq (v : Byte) : lowNibble v = v.toNat % 16 := by
  have h : ∀ w : Byte, lowNibble w = w.toNat % 16 := by decide
  exact h v

/-- The flag byte of every accumulator operation is built from four flags (R100, R111). -/
theorem aluApply_flags_built (o : AluOp) (a b : Byte) (cin : Bool) :
    ∃ z n h c, (aluApply o a b cin).flags = flagsByte z n h c := by
  cases o <;> exact ⟨_, _, _, _, rfl⟩

/-- So is that of an 8-bit INC (R107). -/
theorem inc8_flags_built (v : Byte) (cOld : Bool) : ∃ z h, (inc8 v cOld).flags = flagsByte z false h cOld :=
  ⟨_, _, rfl⟩

/-- And that of an 8-bit DEC (R108). -/
theorem dec8_flags_built (v : Byte) (cOld : Bool) : ∃ z h, (dec8 v cOld).flags = flagsByte z true h cOld :=
  ⟨_, _, rfl⟩

/-- CP's result is the accumulator (R106). -/
@[simp] theorem aluApply_cp_res (a b : Byte) (cin : Bool) : (aluApply .cp a b cin).res = a := rfl

end Sys2Proof.Machine
end

