-- ==== Sys2Proof/Laws/State.lean ====
section
/-! SUPPORT. One lemma per field per update of State, so that no later proof unfolds a record update: the updates are
`complete`, `advance`, `poke`, `set8`, `set16`, `setStackPair` and `applyAlu`. -/

namespace Sys2Proof.Machine

section Complete

variable (s : State) (next : Word) (cost len : Nat)

@[simp] theorem State.complete_a : (s.complete next cost).a = s.a := rfl
@[simp] theorem State.complete_f : (s.complete next cost).f = s.f := rfl
@[simp] theorem State.complete_b : (s.complete next cost).b = s.b := rfl
@[simp] theorem State.complete_c : (s.complete next cost).c = s.c := rfl
@[simp] theorem State.complete_d : (s.complete next cost).d = s.d := rfl
@[simp] theorem State.complete_e : (s.complete next cost).e = s.e := rfl
@[simp] theorem State.complete_h : (s.complete next cost).h = s.h := rfl
@[simp] theorem State.complete_l : (s.complete next cost).l = s.l := rfl
@[simp] theorem State.complete_sp : (s.complete next cost).sp = s.sp := rfl
@[simp] theorem State.complete_pc : (s.complete next cost).pc = next := rfl
@[simp] theorem State.complete_halted : (s.complete next cost).halted = s.halted := rfl
@[simp] theorem State.complete_cycles : (s.complete next cost).cycles = s.cycles + BitVec.ofNat 64 cost := rfl
@[simp] theorem State.complete_fault : (s.complete next cost).fault = s.fault := rfl
@[simp] theorem State.complete_mem : (s.complete next cost).mem = s.mem := rfl
@[simp] theorem State.complete_instrBound : (s.complete next cost).instrBound = s.instrBound := rfl
@[simp] theorem State.complete_cfg : (s.complete next cost).cfg = s.cfg := rfl

@[simp] theorem State.advance_a : (s.advance len cost).a = s.a := rfl
@[simp] theorem State.advance_f : (s.advance len cost).f = s.f := rfl
@[simp] theorem State.advance_b : (s.advance len cost).b = s.b := rfl
@[simp] theorem State.advance_c : (s.advance len cost).c = s.c := rfl
@[simp] theorem State.advance_d : (s.advance len cost).d = s.d := rfl
@[simp] theorem State.advance_e : (s.advance len cost).e = s.e := rfl
@[simp] theorem State.advance_h : (s.advance len cost).h = s.h := rfl
@[simp] theorem State.advance_l : (s.advance len cost).l = s.l := rfl
@[simp] theorem State.advance_sp : (s.advance len cost).sp = s.sp := rfl
@[simp] theorem State.advance_pc : (s.advance len cost).pc = s.pc + BitVec.ofNat 16 len := rfl
@[simp] theorem State.advance_halted : (s.advance len cost).halted = s.halted := rfl
@[simp] theorem State.advance_cycles : (s.advance len cost).cycles = s.cycles + BitVec.ofNat 64 cost := rfl
@[simp] theorem State.advance_fault : (s.advance len cost).fault = s.fault := rfl
@[simp] theorem State.advance_mem : (s.advance len cost).mem = s.mem := rfl
@[simp] theorem State.advance_instrBound : (s.advance len cost).instrBound = s.instrBound := rfl
@[simp] theorem State.advance_cfg : (s.advance len cost).cfg = s.cfg := rfl

end Complete

section Poke

variable (s : State) (addr : Word) (v : Byte)

@[simp] theorem State.poke_a : (s.poke addr v).a = s.a := rfl
@[simp] theorem State.poke_f : (s.poke addr v).f = s.f := rfl
@[simp] theorem State.poke_b : (s.poke addr v).b = s.b := rfl
@[simp] theorem State.poke_c : (s.poke addr v).c = s.c := rfl
@[simp] theorem State.poke_d : (s.poke addr v).d = s.d := rfl
@[simp] theorem State.poke_e : (s.poke addr v).e = s.e := rfl
@[simp] theorem State.poke_h : (s.poke addr v).h = s.h := rfl
@[simp] theorem State.poke_l : (s.poke addr v).l = s.l := rfl
@[simp] theorem State.poke_sp : (s.poke addr v).sp = s.sp := rfl
@[simp] theorem State.poke_pc : (s.poke addr v).pc = s.pc := rfl
@[simp] theorem State.poke_halted : (s.poke addr v).halted = s.halted := rfl
@[simp] theorem State.poke_cycles : (s.poke addr v).cycles = s.cycles := rfl
@[simp] theorem State.poke_fault : (s.poke addr v).fault = s.fault := rfl
@[simp] theorem State.poke_mem : (s.poke addr v).mem = s.mem.write addr.toNat v := rfl
@[simp] theorem State.poke_instrBound : (s.poke addr v).instrBound = s.instrBound := rfl
@[simp] theorem State.poke_cfg : (s.poke addr v).cfg = s.cfg := rfl

end Poke

section Registers

variable (s : State)

@[simp] theorem State.set8_f (r : Reg8) (v : Byte) : (s.set8 r v).f = s.f := by cases r <;> rfl
@[simp] theorem State.set8_sp (r : Reg8) (v : Byte) : (s.set8 r v).sp = s.sp := by cases r <;> rfl
@[simp] theorem State.set8_pc (r : Reg8) (v : Byte) : (s.set8 r v).pc = s.pc := by cases r <;> rfl
@[simp] theorem State.set8_halted (r : Reg8) (v : Byte) : (s.set8 r v).halted = s.halted := by cases r <;> rfl
@[simp] theorem State.set8_cycles (r : Reg8) (v : Byte) : (s.set8 r v).cycles = s.cycles := by cases r <;> rfl
@[simp] theorem State.set8_fault (r : Reg8) (v : Byte) : (s.set8 r v).fault = s.fault := by cases r <;> rfl
@[simp] theorem State.set8_mem (r : Reg8) (v : Byte) : (s.set8 r v).mem = s.mem := by cases r <;> rfl
@[simp] theorem State.set8_instrBound (r : Reg8) (v : Byte) : (s.set8 r v).instrBound = s.instrBound := by cases r <;> rfl
@[simp] theorem State.set8_cfg (r : Reg8) (v : Byte) : (s.set8 r v).cfg = s.cfg := by cases r <;> rfl

@[simp] theorem State.set16_a (p : Pair16) (v : Word) : (s.set16 p v).a = s.a := by cases p <;> rfl
@[simp] theorem State.set16_f (p : Pair16) (v : Word) : (s.set16 p v).f = s.f := by cases p <;> rfl
@[simp] theorem State.set16_pc (p : Pair16) (v : Word) : (s.set16 p v).pc = s.pc := by cases p <;> rfl
@[simp] theorem State.set16_halted (p : Pair16) (v : Word) : (s.set16 p v).halted = s.halted := by cases p <;> rfl
@[simp] theorem State.set16_cycles (p : Pair16) (v : Word) : (s.set16 p v).cycles = s.cycles := by cases p <;> rfl
@[simp] theorem State.set16_fault (p : Pair16) (v : Word) : (s.set16 p v).fault = s.fault := by cases p <;> rfl
@[simp] theorem State.set16_mem (p : Pair16) (v : Word) : (s.set16 p v).mem = s.mem := by cases p <;> rfl
@[simp] theorem State.set16_instrBound (p : Pair16) (v : Word) : (s.set16 p v).instrBound = s.instrBound := by cases p <;> rfl
@[simp] theorem State.set16_cfg (p : Pair16) (v : Word) : (s.set16 p v).cfg = s.cfg := by cases p <;> rfl

@[simp] theorem State.setStackPair_sp (p : StackPair) (v : Word) : (s.setStackPair p v).sp = s.sp := by
  cases p <;> rfl
@[simp] theorem State.setStackPair_pc (p : StackPair) (v : Word) : (s.setStackPair p v).pc = s.pc := by
  cases p <;> rfl
@[simp] theorem State.setStackPair_halted (p : StackPair) (v : Word) : (s.setStackPair p v).halted = s.halted := by
  cases p <;> rfl
@[simp] theorem State.setStackPair_cycles (p : StackPair) (v : Word) : (s.setStackPair p v).cycles = s.cycles := by
  cases p <;> rfl
@[simp] theorem State.setStackPair_fault (p : StackPair) (v : Word) : (s.setStackPair p v).fault = s.fault := by
  cases p <;> rfl
@[simp] theorem State.setStackPair_mem (p : StackPair) (v : Word) : (s.setStackPair p v).mem = s.mem := by
  cases p <;> rfl
@[simp] theorem State.setStackPair_instrBound (p : StackPair) (v : Word) : (s.setStackPair p v).instrBound = s.instrBound := by
  cases p <;> rfl
@[simp] theorem State.setStackPair_cfg (p : StackPair) (v : Word) : (s.setStackPair p v).cfg = s.cfg := by
  cases p <;> rfl

@[simp] theorem State.applyAlu_b (o : AluOp) (v : Byte) : (s.applyAlu o v).b = s.b := by cases o <;> rfl
@[simp] theorem State.applyAlu_c (o : AluOp) (v : Byte) : (s.applyAlu o v).c = s.c := by cases o <;> rfl
@[simp] theorem State.applyAlu_d (o : AluOp) (v : Byte) : (s.applyAlu o v).d = s.d := by cases o <;> rfl
@[simp] theorem State.applyAlu_e (o : AluOp) (v : Byte) : (s.applyAlu o v).e = s.e := by cases o <;> rfl
@[simp] theorem State.applyAlu_h (o : AluOp) (v : Byte) : (s.applyAlu o v).h = s.h := by cases o <;> rfl
@[simp] theorem State.applyAlu_l (o : AluOp) (v : Byte) : (s.applyAlu o v).l = s.l := by cases o <;> rfl
@[simp] theorem State.applyAlu_sp (o : AluOp) (v : Byte) : (s.applyAlu o v).sp = s.sp := by cases o <;> rfl
@[simp] theorem State.applyAlu_pc (o : AluOp) (v : Byte) : (s.applyAlu o v).pc = s.pc := by cases o <;> rfl
@[simp] theorem State.applyAlu_halted (o : AluOp) (v : Byte) : (s.applyAlu o v).halted = s.halted := by cases o <;> rfl
@[simp] theorem State.applyAlu_cycles (o : AluOp) (v : Byte) : (s.applyAlu o v).cycles = s.cycles := by cases o <;> rfl
@[simp] theorem State.applyAlu_fault (o : AluOp) (v : Byte) : (s.applyAlu o v).fault = s.fault := by cases o <;> rfl
@[simp] theorem State.applyAlu_mem (o : AluOp) (v : Byte) : (s.applyAlu o v).mem = s.mem := by cases o <;> rfl
@[simp] theorem State.applyAlu_instrBound (o : AluOp) (v : Byte) : (s.applyAlu o v).instrBound = s.instrBound := by cases o <;> rfl
@[simp] theorem State.applyAlu_cfg (o : AluOp) (v : Byte) : (s.applyAlu o v).cfg = s.cfg := by cases o <;> rfl

/-- F after an accumulator operation is the engine's flag byte (R111). -/
@[simp] theorem State.applyAlu_f (o : AluOp) (v : Byte) :
    (s.applyAlu o v).f = (aluApply o s.a v (flagC s.f)).flags := by cases o <;> rfl

/-- A after an accumulator operation is the engine's result: for CP that is A itself (R106, R111). -/
@[simp] theorem State.applyAlu_a (o : AluOp) (v : Byte) :
    (s.applyAlu o v).a = (aluApply o s.a v (flagC s.f)).res := by cases o <;> rfl

/-- Reading the register just written. -/
@[simp] theorem State.get8_set8_same (r : Reg8) (v : Byte) : (s.set8 r v).get8 r = v := by cases r <;> rfl

/-- Reading another register than the one written. -/
theorem State.get8_set8_other (r q : Reg8) (v : Byte) (h : q ≠ r) : (s.set8 r v).get8 q = s.get8 q := by
  cases r <;> cases q <;> first | rfl | exact absurd rfl h

end Registers

section Views

variable (s : State)

@[simp] theorem State.get8_complete (next : Word) (cost : Nat) (r : Reg8) :
    (s.complete next cost).get8 r = s.get8 r := by cases r <;> rfl

@[simp] theorem State.get8_advance (len cost : Nat) (r : Reg8) : (s.advance len cost).get8 r = s.get8 r := by
  cases r <;> rfl

@[simp] theorem State.get16_advance (len cost : Nat) (p : Pair16) : (s.advance len cost).get16 p = s.get16 p := by
  cases p <;> rfl

@[simp] theorem State.getStackPair_advance (len cost : Nat) (p : StackPair) :
    (s.advance len cost).getStackPair p = s.getStackPair p := by cases p <;> rfl

end Views

end Sys2Proof.Machine
end

