-- ==== Sys2Proof/Laws/Forms.lean ====
section
/-! SUPPORT. The 256 constructors in their 26 forms. `Instr.form` names an instruction's form and operands, and
`exec_eq_run` says that executing it is running that form, so that a proof over all instructions splits into 26 cases
and not into 256. `Form.run_eq` says once what running a form does, in
closed form; `Form.result_completed` what it leaves as it was. -/

namespace Sys2Proof.Machine

/-- The instruction forms of 42_quadrant0.md to 45_quadrant3.md, with their operands. -/
inductive Form where
  | nop
  | ldPairImm (p : Pair16) (d16 : Word)
  | incPair (p : Pair16)
  | decPair (p : Pair16)
  | incReg (r : Reg8)
  | decReg (r : Reg8)
  | incAtHL
  | decAtHL
  | ldRegImm (r : Reg8) (d8 : Byte)
  | ldAtHLImm (d8 : Byte)
  | jr (e : Int)
  | jrCond (cc : Cond) (e : Int)
  | ldRegReg (dst src : Reg8)
  | ldRegAtHL (dst : Reg8)
  | ldAtHLReg (src : Reg8)
  | halt
  | aluReg (o : AluOp) (src : Reg8)
  | aluAtHL (o : AluOp)
  | aluImm (o : AluOp) (d8 : Byte)
  | retCond (cc : Cond)
  | jpCond (cc : Cond) (a16 : Word)
  | callCond (cc : Cond) (a16 : Word)
  | rst (t : Nat)
  | push (p : StackPair)
  | pop (p : StackPair)
  | unimplemented (op : Byte)
  deriving DecidableEq, Repr

/-- The operation that runs a form. -/
def Form.run (s : State) : Form → Result
  | .nop => doNop s
  | .ldPairImm p v => doLdPairImm p v s
  | .incPair p => doIncPair p s
  | .decPair p => doDecPair p s
  | .incReg r => doIncReg r s
  | .decReg r => doDecReg r s
  | .incAtHL => doIncAtHL s
  | .decAtHL => doDecAtHL s
  | .ldRegImm r v => doLdRegImm r v s
  | .ldAtHLImm v => doLdAtHLImm v s
  | .jr e => doJr e s
  | .jrCond cc e => doJrCond cc e s
  | .ldRegReg dst src => doLdRegReg dst src s
  | .ldRegAtHL dst => doLdRegAtHL dst s
  | .ldAtHLReg src => doLdAtHLReg src s
  | .halt => doHalt s
  | .aluReg o src => doAluReg o src s
  | .aluAtHL o => doAluAtHL o s
  | .aluImm o v => doAluImm o v s
  | .retCond cc => doRetCond cc s
  | .jpCond cc v => doJpCond cc v s
  | .callCond cc v => doCallCond cc v s
  | .rst t => doRst t s
  | .push p => doPush p s
  | .pop p => doPop p s
  | .unimplemented op => doUnimplemented op s

end Sys2Proof.Machine

namespace Sys2Proof

open Machine in
/-- An instruction's form. -/
def Instr.form : Instr → Form
  | .nop => .nop
  | .ldBC_D16 d16 => .ldPairImm .bc d16
  | .incBC => .incPair .bc
  | .incB => .incReg .b
  | .decB => .decReg .b
  | .ldB_D8 d8 => .ldRegImm .b d8
  | .decBC => .decPair .bc
  | .incC => .incReg .c
  | .decC => .decReg .c
  | .ldC_D8 d8 => .ldRegImm .c d8
  | .ldDE_D16 d16 => .ldPairImm .de d16
  | .incDE => .incPair .de
  | .incD => .incReg .d
  | .decD => .decReg .d
  | .ldD_D8 d8 => .ldRegImm .d d8
  | .jr e => .jr e
  | .decDE => .decPair .de
  | .incE => .incReg .e
  | .decE => .decReg .e
  | .ldE_D8 d8 => .ldRegImm .e d8
  | .jrNZ e => .jrCond .nz e
  | .ldHL_D16 d16 => .ldPairImm .hl d16
  | .incHL => .incPair .hl
  | .incH => .incReg .h
  | .decH => .decReg .h
  | .ldH_D8 d8 => .ldRegImm .h d8
  | .jrZ e => .jrCond .z e
  | .decHL => .decPair .hl
  | .incL => .incReg .l
  | .decL => .decReg .l
  | .ldL_D8 d8 => .ldRegImm .l d8
  | .jrNC e => .jrCond .nc e
  | .ldSP_D16 d16 => .ldPairImm .sp d16
  | .incSP => .incPair .sp
  | .incAtHL => .incAtHL
  | .decAtHL => .decAtHL
  | .ldAtHL_D8 d8 => .ldAtHLImm d8
  | .jrC e => .jrCond .c e
  | .decSP => .decPair .sp
  | .incA => .incReg .a
  | .decA => .decReg .a
  | .ldA_D8 d8 => .ldRegImm .a d8
  | .ldB_B => .ldRegReg .b .b
  | .ldB_C => .ldRegReg .b .c
  | .ldB_D => .ldRegReg .b .d
  | .ldB_E => .ldRegReg .b .e
  | .ldB_H => .ldRegReg .b .h
  | .ldB_L => .ldRegReg .b .l
  | .ldB_AtHL => .ldRegAtHL .b
  | .ldB_A => .ldRegReg .b .a
  | .ldC_B => .ldRegReg .c .b
  | .ldC_C => .ldRegReg .c .c
  | .ldC_D => .ldRegReg .c .d
  | .ldC_E => .ldRegReg .c .e
  | .ldC_H => .ldRegReg .c .h
  | .ldC_L => .ldRegReg .c .l
  | .ldC_AtHL => .ldRegAtHL .c
  | .ldC_A => .ldRegReg .c .a
  | .ldD_B => .ldRegReg .d .b
  | .ldD_C => .ldRegReg .d .c
  | .ldD_D => .ldRegReg .d .d
  | .ldD_E => .ldRegReg .d .e
  | .ldD_H => .ldRegReg .d .h
  | .ldD_L => .ldRegReg .d .l
  | .ldD_AtHL => .ldRegAtHL .d
  | .ldD_A => .ldRegReg .d .a
  | .ldE_B => .ldRegReg .e .b
  | .ldE_C => .ldRegReg .e .c
  | .ldE_D => .ldRegReg .e .d
  | .ldE_E => .ldRegReg .e .e
  | .ldE_H => .ldRegReg .e .h
  | .ldE_L => .ldRegReg .e .l
  | .ldE_AtHL => .ldRegAtHL .e
  | .ldE_A => .ldRegReg .e .a
  | .ldH_B => .ldRegReg .h .b
  | .ldH_C => .ldRegReg .h .c
  | .ldH_D => .ldRegReg .h .d
  | .ldH_E => .ldRegReg .h .e
  | .ldH_H => .ldRegReg .h .h
  | .ldH_L => .ldRegReg .h .l
  | .ldH_AtHL => .ldRegAtHL .h
  | .ldH_A => .ldRegReg .h .a
  | .ldL_B => .ldRegReg .l .b
  | .ldL_C => .ldRegReg .l .c
  | .ldL_D => .ldRegReg .l .d
  | .ldL_E => .ldRegReg .l .e
  | .ldL_H => .ldRegReg .l .h
  | .ldL_L => .ldRegReg .l .l
  | .ldL_AtHL => .ldRegAtHL .l
  | .ldL_A => .ldRegReg .l .a
  | .ldAtHL_B => .ldAtHLReg .b
  | .ldAtHL_C => .ldAtHLReg .c
  | .ldAtHL_D => .ldAtHLReg .d
  | .ldAtHL_E => .ldAtHLReg .e
  | .ldAtHL_H => .ldAtHLReg .h
  | .ldAtHL_L => .ldAtHLReg .l
  | .halt => .halt
  | .ldAtHL_A => .ldAtHLReg .a
  | .ldA_B => .ldRegReg .a .b
  | .ldA_C => .ldRegReg .a .c
  | .ldA_D => .ldRegReg .a .d
  | .ldA_E => .ldRegReg .a .e
  | .ldA_H => .ldRegReg .a .h
  | .ldA_L => .ldRegReg .a .l
  | .ldA_AtHL => .ldRegAtHL .a
  | .ldA_A => .ldRegReg .a .a
  | .addA_B => .aluReg .add .b
  | .addA_C => .aluReg .add .c
  | .addA_D => .aluReg .add .d
  | .addA_E => .aluReg .add .e
  | .addA_H => .aluReg .add .h
  | .addA_L => .aluReg .add .l
  | .addA_AtHL => .aluAtHL .add
  | .addA_A => .aluReg .add .a
  | .adcA_B => .aluReg .adc .b
  | .adcA_C => .aluReg .adc .c
  | .adcA_D => .aluReg .adc .d
  | .adcA_E => .aluReg .adc .e
  | .adcA_H => .aluReg .adc .h
  | .adcA_L => .aluReg .adc .l
  | .adcA_AtHL => .aluAtHL .adc
  | .adcA_A => .aluReg .adc .a
  | .subA_B => .aluReg .sub .b
  | .subA_C => .aluReg .sub .c
  | .subA_D => .aluReg .sub .d
  | .subA_E => .aluReg .sub .e
  | .subA_H => .aluReg .sub .h
  | .subA_L => .aluReg .sub .l
  | .subA_AtHL => .aluAtHL .sub
  | .subA_A => .aluReg .sub .a
  | .sbcA_B => .aluReg .sbc .b
  | .sbcA_C => .aluReg .sbc .c
  | .sbcA_D => .aluReg .sbc .d
  | .sbcA_E => .aluReg .sbc .e
  | .sbcA_H => .aluReg .sbc .h
  | .sbcA_L => .aluReg .sbc .l
  | .sbcA_AtHL => .aluAtHL .sbc
  | .sbcA_A => .aluReg .sbc .a
  | .andA_B => .aluReg .and .b
  | .andA_C => .aluReg .and .c
  | .andA_D => .aluReg .and .d
  | .andA_E => .aluReg .and .e
  | .andA_H => .aluReg .and .h
  | .andA_L => .aluReg .and .l
  | .andA_AtHL => .aluAtHL .and
  | .andA_A => .aluReg .and .a
  | .xorA_B => .aluReg .xor .b
  | .xorA_C => .aluReg .xor .c
  | .xorA_D => .aluReg .xor .d
  | .xorA_E => .aluReg .xor .e
  | .xorA_H => .aluReg .xor .h
  | .xorA_L => .aluReg .xor .l
  | .xorA_AtHL => .aluAtHL .xor
  | .xorA_A => .aluReg .xor .a
  | .orA_B => .aluReg .or .b
  | .orA_C => .aluReg .or .c
  | .orA_D => .aluReg .or .d
  | .orA_E => .aluReg .or .e
  | .orA_H => .aluReg .or .h
  | .orA_L => .aluReg .or .l
  | .orA_AtHL => .aluAtHL .or
  | .orA_A => .aluReg .or .a
  | .cpA_B => .aluReg .cp .b
  | .cpA_C => .aluReg .cp .c
  | .cpA_D => .aluReg .cp .d
  | .cpA_E => .aluReg .cp .e
  | .cpA_H => .aluReg .cp .h
  | .cpA_L => .aluReg .cp .l
  | .cpA_AtHL => .aluAtHL .cp
  | .cpA_A => .aluReg .cp .a
  | .retNZ => .retCond .nz
  | .popBC => .pop .bc
  | .jpNZ a16 => .jpCond .nz a16
  | .callNZ a16 => .callCond .nz a16
  | .pushBC => .push .bc
  | .addA_D8 d8 => .aluImm .add d8
  | .rst00 => .rst 0
  | .retZ => .retCond .z
  | .jpZ a16 => .jpCond .z a16
  | .callZ a16 => .callCond .z a16
  | .adcA_D8 d8 => .aluImm .adc d8
  | .rst08 => .rst 1
  | .retNC => .retCond .nc
  | .popDE => .pop .de
  | .jpNC a16 => .jpCond .nc a16
  | .callNC a16 => .callCond .nc a16
  | .pushDE => .push .de
  | .subA_D8 d8 => .aluImm .sub d8
  | .rst10 => .rst 2
  | .retC => .retCond .c
  | .jpC a16 => .jpCond .c a16
  | .callC a16 => .callCond .c a16
  | .sbcA_D8 d8 => .aluImm .sbc d8
  | .rst18 => .rst 3
  | .popHL => .pop .hl
  | .pushHL => .push .hl
  | .andA_D8 d8 => .aluImm .and d8
  | .rst20 => .rst 4
  | .xorA_D8 d8 => .aluImm .xor d8
  | .rst28 => .rst 5
  | .popAF => .pop .af
  | .pushAF => .push .af
  | .orA_D8 d8 => .aluImm .or d8
  | .rst30 => .rst 6
  | .cpA_D8 d8 => .aluImm .cp d8
  | .rst38 => .rst 7
  | .unimplemented02 => .unimplemented 0x02
  | .unimplemented07 => .unimplemented 0x07
  | .unimplemented08 => .unimplemented 0x08
  | .unimplemented09 => .unimplemented 0x09
  | .unimplemented0A => .unimplemented 0x0A
  | .unimplemented0F => .unimplemented 0x0F
  | .unimplemented10 => .unimplemented 0x10
  | .unimplemented12 => .unimplemented 0x12
  | .unimplemented17 => .unimplemented 0x17
  | .unimplemented19 => .unimplemented 0x19
  | .unimplemented1A => .unimplemented 0x1A
  | .unimplemented1F => .unimplemented 0x1F
  | .unimplemented22 => .unimplemented 0x22
  | .unimplemented27 => .unimplemented 0x27
  | .unimplemented29 => .unimplemented 0x29
  | .unimplemented2A => .unimplemented 0x2A
  | .unimplemented2F => .unimplemented 0x2F
  | .unimplemented32 => .unimplemented 0x32
  | .unimplemented37 => .unimplemented 0x37
  | .unimplemented39 => .unimplemented 0x39
  | .unimplemented3A => .unimplemented 0x3A
  | .unimplemented3F => .unimplemented 0x3F
  | .unimplementedC3 => .unimplemented 0xC3
  | .unimplementedC9 => .unimplemented 0xC9
  | .unimplementedCB => .unimplemented 0xCB
  | .unimplementedCD => .unimplemented 0xCD
  | .unimplementedD3 => .unimplemented 0xD3
  | .unimplementedD9 => .unimplemented 0xD9
  | .unimplementedDB => .unimplemented 0xDB
  | .unimplementedDD => .unimplemented 0xDD
  | .unimplementedE0 => .unimplemented 0xE0
  | .unimplementedE2 => .unimplemented 0xE2
  | .unimplementedE3 => .unimplemented 0xE3
  | .unimplementedE4 => .unimplemented 0xE4
  | .unimplementedE8 => .unimplemented 0xE8
  | .unimplementedE9 => .unimplemented 0xE9
  | .unimplementedEA => .unimplemented 0xEA
  | .unimplementedEB => .unimplemented 0xEB
  | .unimplementedEC => .unimplemented 0xEC
  | .unimplementedED => .unimplemented 0xED
  | .unimplementedF0 => .unimplemented 0xF0
  | .unimplementedF2 => .unimplemented 0xF2
  | .unimplementedF3 => .unimplemented 0xF3
  | .unimplementedF4 => .unimplemented 0xF4
  | .unimplementedF8 => .unimplemented 0xF8
  | .unimplementedF9 => .unimplemented 0xF9
  | .unimplementedFA => .unimplemented 0xFA
  | .unimplementedFB => .unimplemented 0xFB
  | .unimplementedFC => .unimplemented 0xFC
  | .unimplementedFD => .unimplemented 0xFD

end Sys2Proof

namespace Sys2Proof.Machine

/-- Executing an instruction is running its form. -/
theorem exec_eq_run (i : Instr) (s : State) : exec i s = (i.form).run s := by cases i <;> rfl

/-! ## The builders of Decode.lean, by form -/

section Builders

variable (s : State)

theorem exec_ldPairImm (p : Pair16) (v : Word) : exec (Instr.ldPairImm p v) s = doLdPairImm p v s := by
  cases p <;> rfl
theorem exec_incPair (p : Pair16) : exec (Instr.incPair p) s = doIncPair p s := by
  cases p <;> rfl
theorem exec_decPair (p : Pair16) : exec (Instr.decPair p) s = doDecPair p s := by
  cases p <;> rfl
theorem exec_incReg (r : Reg8) : exec (Instr.incReg r) s = doIncReg r s := by
  cases r <;> rfl
theorem exec_decReg (r : Reg8) : exec (Instr.decReg r) s = doDecReg r s := by
  cases r <;> rfl
theorem exec_ldRegImm (r : Reg8) (v : Byte) : exec (Instr.ldRegImm r v) s = doLdRegImm r v s := by
  cases r <;> rfl
theorem exec_jrCond (cc : Cond) (e : Int) : exec (Instr.jrCond cc e) s = doJrCond cc e s := by
  cases cc <;> rfl
theorem exec_ldRegAtHL (r : Reg8) : exec (Instr.ldRegAtHL r) s = doLdRegAtHL r s := by
  cases r <;> rfl
theorem exec_ldAtHLReg (r : Reg8) : exec (Instr.ldAtHLReg r) s = doLdAtHLReg r s := by
  cases r <;> rfl
theorem exec_aluAtHL (o : AluOp) : exec (Instr.aluAtHL o) s = doAluAtHL o s := by
  cases o <;> rfl
theorem exec_aluImm (o : AluOp) (v : Byte) : exec (Instr.aluImm o v) s = doAluImm o v s := by
  cases o <;> rfl
theorem exec_retCond (cc : Cond) : exec (Instr.retCond cc) s = doRetCond cc s := by
  cases cc <;> rfl
theorem exec_jpCond (cc : Cond) (v : Word) : exec (Instr.jpCond cc v) s = doJpCond cc v s := by
  cases cc <;> rfl
theorem exec_callCond (cc : Cond) (v : Word) : exec (Instr.callCond cc v) s = doCallCond cc v s := by
  cases cc <;> rfl
theorem exec_pushPair (p : StackPair) : exec (Instr.pushPair p) s = doPush p s := by
  cases p <;> rfl
theorem exec_popPair (p : StackPair) : exec (Instr.popPair p) s = doPop p s := by
  cases p <;> rfl
theorem exec_ldRegReg (dst src : Reg8) : exec (Instr.ldRegReg dst src) s = doLdRegReg dst src s := by
  cases dst <;> cases src <;> rfl
theorem exec_aluReg (o : AluOp) (src : Reg8) : exec (Instr.aluReg o src) s = doAluReg o src s := by
  cases o <;> cases src <;> rfl
theorem exec_rst (t : Nat) (h : t < 8) : exec (Instr.rst t) s = doRst t s := by
  interval_cases t <;> rfl

end Builders

/-! ## What a completed instruction can do -/

/-- A change of memory an instruction can make: none, one byte, or the two bytes of a push, each in bounds. -/
inductive MemEffect (s : State) : Memory → Prop where
  | none : MemEffect s s.mem
  | one (addr : Word) (v : Byte) (h : s.inBounds addr = true) : MemEffect s (s.mem.write addr.toNat v)
  | two (a1 a2 : Word) (v1 v2 : Byte) (h1 : s.inBounds a1 = true) (h2 : s.inBounds a2 = true) :
      MemEffect s ((s.mem.write a1.toNat v1).write a2.toNat v2)

/-- A change of F an instruction can make: none, four computed flags, or a popped byte, masked by the parameter. -/
inductive FlagEffect (s : State) : Byte → Prop where
  | none : FlagEffect s s.f
  | built (z n h c : Bool) : FlagEffect s (flagsByte z n h c)
  | popped (w : Word) : FlagEffect s (loByte (s.popped .af w))

/-- What every completed instruction leaves: the fault record and the parameters as they were, memory and F by one of
the effects above. -/
structure Completed (s t : State) : Prop where
  fault : t.fault = s.fault
  instrBound : t.instrBound = s.instrBound
  cfg : t.cfg = s.cfg
  mem : MemEffect s t.mem
  flags : FlagEffect s t.f

/-! ## Running a form, in closed form -/

/-- Whether both bytes of a push are in bounds. -/
def State.canPush (s : State) : Bool := s.inBounds (s.sp - 1) && s.inBounds (s.sp - 2)

/-- Whether both bytes of a pop are in bounds. -/
def State.canPop (s : State) : Bool := s.inBounds s.sp && s.inBounds (s.sp + 1)

/-- The fault of a push that cannot be made: the high byte's address first. -/
def State.pushFault (s : State) : Fault :=
  .memoryOutOfBounds (if s.inBounds (s.sp - 1) then s.sp - 2 else s.sp - 1) .write

/-- The fault of a pop that cannot be made: the low byte's address first. -/
def State.popFault (s : State) : Fault :=
  .memoryOutOfBounds (if s.inBounds s.sp then s.sp + 1 else s.sp) .read

/-- Whether the form completes: its operands are in bounds and it is implemented. -/
def Form.completes (s : State) : Form → Bool
  | .incAtHL | .decAtHL | .ldAtHLImm _ | .ldRegAtHL _ | .ldAtHLReg _ | .aluAtHL _ => s.inBounds s.hl
  | .retCond cc => !condHolds s.f cc || s.canPop
  | .callCond cc _ => !condHolds s.f cc || s.canPush
  | .rst _ | .push _ => s.canPush
  | .pop _ => s.canPop
  | .unimplemented _ => false
  | .nop | .ldPairImm _ _ | .incPair _ | .decPair _ | .incReg _ | .decReg _ | .ldRegImm _ _ | .jr _ | .jrCond _ _
  | .ldRegReg _ _ | .halt | .aluReg _ _ | .aluImm _ _ | .jpCond _ _ => true

/-- The state after the form completes. -/
def Form.result (s : State) : Form → State
  | .nop => s.advance 1 s.cfg.cycleTable.nop
  | .ldPairImm p v => (s.set16 p v).advance 3 s.cfg.cycleTable.ldPairImm
  | .incPair p => (s.set16 p (inc16 (s.get16 p))).advance 1 s.cfg.cycleTable.incDecPair
  | .decPair p => (s.set16 p (dec16 (s.get16 p))).advance 1 s.cfg.cycleTable.incDecPair
  | .incReg r => { s.set8 r (inc8 (s.get8 r) (flagC s.f)).res with
      f := (inc8 (s.get8 r) (flagC s.f)).flags }.advance 1 s.cfg.cycleTable.incDecReg
  | .decReg r => { s.set8 r (dec8 (s.get8 r) (flagC s.f)).res with
      f := (dec8 (s.get8 r) (flagC s.f)).flags }.advance 1 s.cfg.cycleTable.incDecReg
  | .incAtHL => { s.poke s.hl (inc8 (s.peek s.hl) (flagC s.f)).res with
      f := (inc8 (s.peek s.hl) (flagC s.f)).flags }.advance 1 s.cfg.cycleTable.incDecAtHL
  | .decAtHL => { s.poke s.hl (dec8 (s.peek s.hl) (flagC s.f)).res with
      f := (dec8 (s.peek s.hl) (flagC s.f)).flags }.advance 1 s.cfg.cycleTable.incDecAtHL
  | .ldRegImm r v => (s.set8 r v).advance 2 s.cfg.cycleTable.ldRegImm
  | .ldAtHLImm v => (s.poke s.hl v).advance 2 s.cfg.cycleTable.ldAtHLImm
  | .jr e => s.complete (jrTarget s e) s.cfg.cycleTable.jr
  | .jrCond cc e =>
    if condHolds s.f cc then s.complete (jrTarget s e) s.cfg.cycleTable.jrTaken
    else s.advance 2 s.cfg.cycleTable.jrNotTaken
  | .ldRegReg dst src => (s.set8 dst (s.get8 src)).advance 1 s.cfg.cycleTable.ldRegReg
  | .ldRegAtHL dst => (s.set8 dst (s.peek s.hl)).advance 1 s.cfg.cycleTable.ldRegAtHL
  | .ldAtHLReg src => (s.poke s.hl (s.get8 src)).advance 1 s.cfg.cycleTable.ldAtHLReg
  | .halt => { s with halted := true }.advance 1 s.cfg.cycleTable.halt
  | .aluReg o src => (s.applyAlu o (s.get8 src)).advance 1 s.cfg.cycleTable.aluReg
  | .aluAtHL o => (s.applyAlu o (s.peek s.hl)).advance 1 s.cfg.cycleTable.aluAtHL
  | .aluImm o v => (s.applyAlu o v).advance 2 s.cfg.cycleTable.aluImm
  | .retCond cc =>
    if condHolds s.f cc then
      { s with sp := s.sp + 2 }.complete (hiLo (s.peek (s.sp + 1)) (s.peek s.sp)) s.cfg.cycleTable.retTaken
    else s.advance 1 s.cfg.cycleTable.retNotTaken
  | .jpCond cc v =>
    if condHolds s.f cc then s.complete v s.cfg.cycleTable.jpTaken else s.advance 3 s.cfg.cycleTable.jpNotTaken
  | .callCond cc v =>
    if condHolds s.f cc then (s.pushed (s.pc + 3)).complete v s.cfg.cycleTable.callTaken
    else s.advance 3 s.cfg.cycleTable.callNotTaken
  | .rst t => (s.pushed (s.pc + 1)).complete (rstTarget t) s.cfg.cycleTable.rst
  | .push p => (s.pushed (s.getStackPair p)).advance 1 s.cfg.cycleTable.push
  | .pop p =>
    (State.setStackPair { s with sp := s.sp + 2 } p
      (s.popped p (hiLo (s.peek (s.sp + 1)) (s.peek s.sp)))).advance 1 s.cfg.cycleTable.pop
  | .unimplemented _ => s

/-- The fault of a form that does not complete. -/
def Form.stopFault (s : State) : Form → Fault
  | .incAtHL | .decAtHL | .ldRegAtHL _ | .aluAtHL _ => .memoryOutOfBounds s.hl .read
  | .ldAtHLImm _ | .ldAtHLReg _ => .memoryOutOfBounds s.hl .write
  | .callCond _ _ | .rst _ | .push _ => s.pushFault
  | .retCond _ | .pop _ => s.popFault
  | .unimplemented op => .unimplementedOpcode op s.pc
  | .nop | .ldPairImm _ _ | .incPair _ | .decPair _ | .incReg _ | .decReg _ | .ldRegImm _ _ | .jr _ | .jrCond _ _
  | .ldRegReg _ _ | .halt | .aluReg _ _ | .aluImm _ _ | .jpCond _ _ => .invalidSelector

/-- A push goes on with the pushed state, or faults. -/
theorem State.push16Then_eq (s : State) (w : Word) (k : State → Result) :
    s.push16Then w k = if s.canPush then k (s.pushed w) else .fault s.pushFault := by
  unfold State.canPush State.pushFault
  cases h1 : s.inBounds (s.sp - 1)
  · exact State.push16Then_out_high h1 k
  · cases h2 : s.inBounds (s.sp - 2)
    · exact State.push16Then_out_low h1 h2 k
    · exact State.push16Then_ok h1 h2 k

/-- A pop goes on with the word at SP, or faults. -/
theorem State.pop16Then_eq (s : State) (k : Word → State → Result) :
    s.pop16Then k =
      if s.canPop then k (hiLo (s.peek (s.sp + 1)) (s.peek s.sp)) { s with sp := s.sp + 2 } else .fault s.popFault := by
  unfold State.canPop State.popFault
  cases h1 : s.inBounds s.sp
  · exact State.pop16Then_out_low h1 k
  · cases h2 : s.inBounds (s.sp + 1)
    · exact State.pop16Then_out_high h1 h2 k
    · exact State.pop16Then_ok h1 h2 k

/-- A form that reads the byte at HL and goes on. -/
theorem State.loadThen_eq (s : State) (addr : Word) (k : Byte → Result) :
    s.loadThen addr k = if s.inBounds addr then k (s.peek addr) else .fault (.memoryOutOfBounds addr .read) := rfl

/-- A form that writes the byte at HL and goes on. -/
theorem State.storeThen_eq (s : State) (addr : Word) (v : Byte) (k : State → Result) :
    s.storeThen addr v k = if s.inBounds addr then k (s.poke addr v) else .fault (.memoryOutOfBounds addr .write) := rfl

/-- Running a form: its result where it completes, its fault where not. -/
theorem Form.run_eq (f : Form) (s : State) :
    f.run s = if f.completes s then .next (f.result s) else .fault (f.stopFault s) := by
  cases f with
  | incAtHL =>
    change doIncAtHL s = _
    unfold doIncAtHL
    cases h : s.inBounds s.hl <;> simp [State.loadThen_eq, State.storeThen_eq, Form.completes, Form.result, Form.stopFault, h]
  | decAtHL =>
    change doDecAtHL s = _
    unfold doDecAtHL
    cases h : s.inBounds s.hl <;> simp [State.loadThen_eq, State.storeThen_eq, Form.completes, Form.result, Form.stopFault, h]
  | jrCond cc e =>
    change doJrCond cc e s = _
    unfold doJrCond
    cases h : condHolds s.f cc <;> simp [Form.completes, Form.result, h]
  | jpCond cc v =>
    change doJpCond cc v s = _
    unfold doJpCond
    cases h : condHolds s.f cc <;> simp [Form.completes, Form.result, h]
  | retCond cc =>
    change doRetCond cc s = _
    unfold doRetCond
    cases h : condHolds s.f cc <;> simp [State.pop16Then_eq, Form.completes, Form.result, Form.stopFault, h]
  | callCond cc v =>
    change doCallCond cc v s = _
    unfold doCallCond
    cases h : condHolds s.f cc <;> simp [State.push16Then_eq, Form.completes, Form.result, Form.stopFault, h]
  | rst t =>
    change doRst t s = _
    exact State.push16Then_eq s _ _
  | push p =>
    change doPush p s = _
    exact State.push16Then_eq s _ _
  | pop p =>
    change doPop p s = _
    exact State.pop16Then_eq s _
  | _ => rfl

/-- A form answers a next state exactly where it completes, and then its result. -/
theorem Form.run_next {f : Form} {s t : State} : f.run s = .next t ↔ f.completes s = true ∧ t = f.result s := by
  rw [Form.run_eq]
  cases f.completes s
  · exact ⟨(nomatch ·), fun h => nomatch h.1⟩
  · exact ⟨fun h => (by cases h; exact ⟨rfl, rfl⟩), fun h => (by rw [h.2]; rfl)⟩

/-- A form answers a fault exactly where it does not complete. -/
theorem Form.run_fault {f : Form} {s : State} {r : Fault} :
    f.run s = .fault r ↔ f.completes s = false ∧ r = f.stopFault s := by
  rw [Form.run_eq]
  cases f.completes s
  · exact ⟨fun h => (by cases h; exact ⟨rfl, rfl⟩), fun h => (by rw [h.2]; rfl)⟩
  · exact ⟨(nomatch ·), fun h => nomatch h.1⟩

/-- No form answers a refusal. -/
theorem Form.run_not_refused (f : Form) (s : State) (q : Refusal) : f.run s ≠ .refused q := by
  rw [Form.run_eq]
  split <;> simp

/-! ## What a completed instruction leaves -/

/-- A completed form has the effects above and no other on the record, the parameters, memory and F. -/
theorem Form.result_completed {f : Form} {s : State} (h : f.completes s = true) : Completed s (f.result s) := by
  cases f with
  | nop => exact ⟨rfl, rfl, rfl, .none, .none⟩
  | ldPairImm p v => cases p <;> exact ⟨rfl, rfl, rfl, .none, .none⟩
  | incPair p => cases p <;> exact ⟨rfl, rfl, rfl, .none, .none⟩
  | decPair p => cases p <;> exact ⟨rfl, rfl, rfl, .none, .none⟩
  | incReg r => cases r <;> exact ⟨rfl, rfl, rfl, .none, .built _ _ _ _⟩
  | decReg r => cases r <;> exact ⟨rfl, rfl, rfl, .none, .built _ _ _ _⟩
  | incAtHL => exact ⟨rfl, rfl, rfl, .one _ _ h, .built _ _ _ _⟩
  | decAtHL => exact ⟨rfl, rfl, rfl, .one _ _ h, .built _ _ _ _⟩
  | ldRegImm r v => cases r <;> exact ⟨rfl, rfl, rfl, .none, .none⟩
  | ldAtHLImm v => exact ⟨rfl, rfl, rfl, .one _ _ h, .none⟩
  | jr e => exact ⟨rfl, rfl, rfl, .none, .none⟩
  | jrCond cc e => rw [Form.result]; split <;> exact ⟨rfl, rfl, rfl, .none, .none⟩
  | ldRegReg dst src => cases dst <;> exact ⟨rfl, rfl, rfl, .none, .none⟩
  | ldRegAtHL dst => cases dst <;> exact ⟨rfl, rfl, rfl, .none, .none⟩
  | ldAtHLReg src => exact ⟨rfl, rfl, rfl, .one _ _ h, .none⟩
  | halt => exact ⟨rfl, rfl, rfl, .none, .none⟩
  | aluReg o src => cases o <;> exact ⟨rfl, rfl, rfl, .none, .built _ _ _ _⟩
  | aluAtHL o => cases o <;> exact ⟨rfl, rfl, rfl, .none, .built _ _ _ _⟩
  | aluImm o v => cases o <;> exact ⟨rfl, rfl, rfl, .none, .built _ _ _ _⟩
  | retCond cc => rw [Form.result]; split <;> exact ⟨rfl, rfl, rfl, .none, .none⟩
  | jpCond cc v => rw [Form.result]; split <;> exact ⟨rfl, rfl, rfl, .none, .none⟩
  | callCond cc v =>
    rw [Form.result]
    split
    · simp [Form.completes, State.canPush, *] at h
      exact ⟨rfl, rfl, rfl, .two _ _ _ _ h.1 h.2, .none⟩
    · exact ⟨rfl, rfl, rfl, .none, .none⟩
  | rst n =>
    rw [Form.completes, State.canPush, Bool.and_eq_true] at h
    exact ⟨rfl, rfl, rfl, .two _ _ _ _ h.1 h.2, .none⟩
  | push p =>
    rw [Form.completes, State.canPush, Bool.and_eq_true] at h
    exact ⟨rfl, rfl, rfl, .two _ _ _ _ h.1 h.2, .none⟩
  | pop p =>
    cases p
    · exact ⟨rfl, rfl, rfl, .none, .none⟩
    · exact ⟨rfl, rfl, rfl, .none, .none⟩
    · exact ⟨rfl, rfl, rfl, .none, .none⟩
    · exact ⟨rfl, rfl, rfl, .none, .popped _⟩
  | unimplemented op => cases h

end Sys2Proof.Machine
end

