-- ==== Sys2Proof/Laws/Memory.lean ====
section
/-! SUPPORT. Memory as data: a read after a write, and the canonical form that every memory operation keeps. -/

namespace Sys2Proof.Machine

@[simp] theorem Memory.read_nil (x : Nat) : Memory.read [] x = 0 := rfl

theorem Memory.read_cons (x y : Nat) (v : Byte) (m : Memory) :
    Memory.read ((y, v) :: m) x = if x = y then v else Memory.read m x := rfl

/-- The tail of a canonical memory is canonical. -/
theorem Memory.wf_tail {c : Host.Cell} {m : Memory} (h : Memory.wf (c :: m)) : Memory.wf m :=
  ⟨(List.pairwise_cons.1 h.1).2, fun d hd => h.2 d (List.mem_cons_of_mem _ hd)⟩

/-- In a canonical memory the addresses after the head lie above it. -/
theorem Memory.wf_head_lt {x : Nat} {v : Byte} {m : Memory} (h : Memory.wf ((x, v) :: m)) :
    ∀ c ∈ m, x < c.1 := (List.pairwise_cons.1 h.1).1

/-- An address no cell lists reads as 0. -/
theorem Memory.read_of_not_listed (m : Memory) (x : Nat) (h : ∀ c ∈ m, c.1 ≠ x) : Memory.read m x = 0 := by
  induction m with
  | nil => rfl
  | cons c m ih =>
    obtain ⟨y, v⟩ := c
    have hy : x ≠ y := fun e => h (y, v) List.mem_cons_self e.symm
    rw [Memory.read_cons, if_neg hy]
    exact ih fun d hd => h d (List.mem_cons_of_mem _ hd)

/-- Every cell of a memory after a write is the written one or was there before. -/
theorem Memory.mem_write {m : Memory} {x : Nat} {v : Byte} {c : Host.Cell} (h : c ∈ Memory.write m x v) :
    (c = (x, v) ∧ v ≠ 0) ∨ c ∈ m := by
  induction m with
  | nil =>
    unfold Memory.write at h
    split at h
    · exact absurd h List.not_mem_nil
    · exact .inl ⟨List.mem_singleton.1 h, ‹_›⟩
  | cons d m ih =>
    obtain ⟨y, w⟩ := d
    unfold Memory.write at h
    split at h
    · split at h
      · exact .inr h
      · rcases List.mem_cons.1 h with rfl | h
        · exact .inl ⟨rfl, ‹_›⟩
        · exact .inr h
    · split at h
      · split at h
        · exact .inr (List.mem_cons_of_mem _ h)
        · rcases List.mem_cons.1 h with rfl | h
          · exact .inl ⟨rfl, ‹_›⟩
          · exact .inr (List.mem_cons_of_mem _ h)
      · rcases List.mem_cons.1 h with rfl | h
        · exact .inr List.mem_cons_self
        · rcases ih h with h | h
          · exact .inl h
          · exact .inr (List.mem_cons_of_mem _ h)

/-- A write keeps the canonical form. -/
theorem Memory.write_wf {m : Memory} (h : m.wf) (x : Nat) (v : Byte) : (Memory.write m x v).wf := by
  induction m with
  | nil =>
    unfold Memory.write
    split
    · exact h
    · exact ⟨List.pairwise_singleton _ _, fun c hc => by rw [List.mem_singleton.1 hc]; assumption⟩
  | cons c m ih =>
    obtain ⟨y, w⟩ := c
    have hlt := Memory.wf_head_lt h
    have ht := ih (Memory.wf_tail h)
    unfold Memory.write
    split
    · split
      · exact h
      · refine ⟨List.pairwise_cons.2 ⟨fun d hd => ?_, h.1⟩, fun d hd => ?_⟩
        · rcases List.mem_cons.1 hd with rfl | hd
          · assumption
          · exact Nat.lt_trans ‹x < y› (hlt d hd)
        · rcases List.mem_cons.1 hd with rfl | hd
          · assumption
          · exact h.2 d hd
    · split
      · obtain rfl : x = y := ‹_›
        split
        · exact Memory.wf_tail h
        · refine ⟨List.pairwise_cons.2 ⟨hlt, (Memory.wf_tail h).1⟩, fun d hd => ?_⟩
          rcases List.mem_cons.1 hd with rfl | hd
          · assumption
          · exact h.2 d (List.mem_cons_of_mem _ hd)
      · refine ⟨List.pairwise_cons.2 ⟨fun d hd => ?_, ht.1⟩, fun d hd => ?_⟩
        · rcases Memory.mem_write hd with ⟨rfl, -⟩ | hd
          · show y < x
            omega
          · exact hlt d hd
        · rcases List.mem_cons.1 hd with rfl | hd
          · exact h.2 _ List.mem_cons_self
          · exact ht.2 d hd

/-- A write lists no address a bound excludes, if the written one is inside it. -/
theorem Memory.write_bounded {m : Memory} {n x : Nat} (h : ∀ c ∈ m, c.1 < n) (hx : x < n) (v : Byte) :
    ∀ c ∈ Memory.write m x v, c.1 < n := by
  intro c hc
  rcases Memory.mem_write hc with ⟨rfl, -⟩ | hc
  · exact hx
  · exact h c hc

/-- A read after a write: the written byte at the written address, and every other byte as it was. -/
theorem Memory.read_write {m : Memory} (h : m.wf) (x y : Nat) (v : Byte) :
    Memory.read (Memory.write m x v) y = if y = x then v else Memory.read m y := by
  induction m with
  | nil =>
    unfold Memory.write
    split
    · by_cases hy : y = x
      · rw [if_pos hy]
        exact Eq.symm ‹_›
      · rw [if_neg hy]
    · rw [Memory.read_cons]
  | cons c m ih =>
    obtain ⟨z, w⟩ := c
    have hlt := Memory.wf_head_lt h
    unfold Memory.write
    split
    · have h0 : Memory.read ((z, w) :: m) x = 0 := by
        apply Memory.read_of_not_listed
        intro d hd
        rcases List.mem_cons.1 hd with rfl | hd
        · show z ≠ x
          omega
        · have := hlt d hd
          omega
      split
      · by_cases hy : y = x
        · rw [if_pos hy, hy, h0]
          exact Eq.symm ‹_›
        · rw [if_neg hy]
      · rw [Memory.read_cons]
    · split
      · obtain rfl : x = z := ‹_›
        have h0 : Memory.read m x = 0 :=
          Memory.read_of_not_listed m x fun d hd => Nat.ne_of_gt (hlt d hd)
        split
        · by_cases hy : y = x
          · rw [if_pos hy, hy, h0]
            exact Eq.symm ‹_›
          · rw [if_neg hy, Memory.read_cons, if_neg hy]
        · rw [Memory.read_cons, Memory.read_cons]
          by_cases hy : y = x
          · rw [if_pos hy, if_pos hy]
          · rw [if_neg hy, if_neg hy, if_neg hy]
      · rw [Memory.read_cons, Memory.read_cons, ih (Memory.wf_tail h)]
        by_cases hz : y = z
        · subst hz
          rw [if_pos rfl, if_pos rfl, if_neg (by omega)]
        · rw [if_neg hz, if_neg hz]

/-- A read at the address just written. -/
theorem Memory.read_write_same {m : Memory} (h : m.wf) (x : Nat) (v : Byte) :
    Memory.read (Memory.write m x v) x = v := by rw [Memory.read_write h, if_pos rfl]

/-- A read at another address than the one just written. -/
theorem Memory.read_write_other {m : Memory} (h : m.wf) {x y : Nat} (v : Byte) (hy : y ≠ x) :
    Memory.read (Memory.write m x v) y = Memory.read m y := by rw [Memory.read_write h, if_neg hy]

/-- The empty memory, which reset leaves, is canonical. -/
theorem Memory.wf_nil : Memory.wf [] := ⟨List.Pairwise.nil, fun _ h => absurd h List.not_mem_nil⟩

/-- Loading an image keeps the canonical form. -/
theorem Memory.load_wf (image : List Byte) {m : Memory} (h : m.wf) (addr : Nat) : (m.load addr image).wf := by
  induction image generalizing m addr with
  | nil => exact h
  | cons v vs ih => exact ih (Memory.write_wf h addr v) (addr + 1)

/-- Canonical memories that read alike everywhere are equal. -/
theorem Memory.ext_of_wf {m n : Memory} (hm : m.wf) (hn : n.wf) (h : ∀ x, Memory.read m x = Memory.read n x) :
    m = n := by
  induction m generalizing n with
  | nil =>
    cases n with
    | nil => rfl
    | cons c n =>
      obtain ⟨y, w⟩ := c
      have := h y
      rw [Memory.read_cons, if_pos rfl] at this
      exact absurd this.symm (hn.2 (y, w) List.mem_cons_self)
  | cons c m ih =>
    obtain ⟨x, v⟩ := c
    cases n with
    | nil =>
      have := h x
      rw [Memory.read_cons, if_pos rfl] at this
      exact absurd this (hm.2 (x, v) List.mem_cons_self)
    | cons d n =>
      obtain ⟨y, w⟩ := d
      have hv : v ≠ 0 := hm.2 (x, v) List.mem_cons_self
      have hw : w ≠ 0 := hn.2 (y, w) List.mem_cons_self
      have hltm := Memory.wf_head_lt hm
      have hltn := Memory.wf_head_lt hn
      have hxy : x = y := by
        rcases Nat.lt_trichotomy x y with hlt | heq | hlt
        · have := h x
          rw [Memory.read_cons, if_pos rfl, Memory.read_of_not_listed] at this
          · exact absurd this hv
          · intro e he
            rcases List.mem_cons.1 he with rfl | he
            · exact Nat.ne_of_gt hlt
            · exact Nat.ne_of_gt (Nat.lt_trans hlt (hltn e he))
        · exact heq
        · have := h y
          rw [Memory.read_cons (m := n), if_pos rfl, Memory.read_of_not_listed] at this
          · exact absurd this.symm hw
          · intro e he
            rcases List.mem_cons.1 he with rfl | he
            · exact Nat.ne_of_gt hlt
            · exact Nat.ne_of_gt (Nat.lt_trans hlt (hltm e he))
      subst hxy
      have hvw : v = w := by
        have := h x
        rwa [Memory.read_cons, Memory.read_cons, if_pos rfl, if_pos rfl] at this
      subst hvw
      congr 1
      refine ih (Memory.wf_tail hm) (Memory.wf_tail hn) fun z => ?_
      by_cases hz : z = x
      · subst hz
        rw [Memory.read_of_not_listed m z fun e he => Nat.ne_of_gt (hltm e he),
          Memory.read_of_not_listed n z fun e he => Nat.ne_of_gt (hltn e he)]
      · have := h z
        rwa [Memory.read_cons, Memory.read_cons, if_neg hz, if_neg hz] at this

end Sys2Proof.Machine
end

