-- ==== Sys2Proof/Laws/PerInstr.lean ====
section
/-! SUPPORT. A statement about every instruction as syntax: its encoding is as long as the length of its row in
spec/opcode_table.json (30_encoding.md R61); one lemma per constructor. -/

namespace Sys2Proof.Laws.EncodingLength

/-- The encoding's bytes: 3 with a word operand, 2 with a byte or offset operand, else 1; the decoder reads the length
from the opcode byte alone (R61). -/
def Statement (i : Instr) : Prop :=
  immBytesOf i.opcode + 1 = i.length ∧ 1 ≤ i.length ∧ i.length ≤ 3

theorem nop : Statement (.nop) :=
  show immBytesOf 0x00 + 1 = 1 ∧ 1 ≤ 1 ∧ 1 ≤ 3 by decide
theorem ldBC_D16 (d16 : Word) : Statement (.ldBC_D16 d16) :=
  show immBytesOf 0x01 + 1 = 3 ∧ 1 ≤ 3 ∧ 3 ≤ 3 by decide
theorem incBC : Statement (.incBC) :=
  show immBytesOf 0x03 + 1 = 1 ∧ 1 ≤ 1 ∧ 1 ≤ 3 by decide
theorem incB : Statement (.incB) :=
  show immBytesOf 0x04 + 1 = 1 ∧ 1 ≤ 1 ∧ 1 ≤ 3 by decide
theorem decB : Statement (.decB) :=
  show immBytesOf 0x05 + 1 = 1 ∧ 1 ≤ 1 ∧ 1 ≤ 3 by decide
theorem ldB_D8 (d8 : Byte) : Statement (.ldB_D8 d8) :=
  show immBytesOf 0x06 + 1 = 2 ∧ 1 ≤ 2 ∧ 2 ≤ 3 by decide
theorem decBC : Statement (.decBC) :=
  show immBytesOf 0x0B + 1 = 1 ∧ 1 ≤ 1 ∧ 1 ≤ 3 by decide
theorem incC : Statement (.incC) :=
  show immBytesOf 0x0C + 1 = 1 ∧ 1 ≤ 1 ∧ 1 ≤ 3 by decide
theorem decC : Statement (.decC) :=
  show immBytesOf 0x0D + 1 = 1 ∧ 1 ≤ 1 ∧ 1 ≤ 3 by decide
theorem ldC_D8 (d8 : Byte) : Statement (.ldC_D8 d8) :=
  show immBytesOf 0x0E + 1 = 2 ∧ 1 ≤ 2 ∧ 2 ≤ 3 by decide
theorem ldDE_D16 (d16 : Word) : Statement (.ldDE_D16 d16) :=
  show immBytesOf 0x11 + 1 = 3 ∧ 1 ≤ 3 ∧ 3 ≤ 3 by decide
theorem incDE : Statement (.incDE) :=
  show immBytesOf 0x13 + 1 = 1 ∧ 1 ≤ 1 ∧ 1 ≤ 3 by decide
theorem incD : Statement (.incD) :=
  show immBytesOf 0x14 + 1 = 1 ∧ 1 ≤ 1 ∧ 1 ≤ 3 by decide
theorem decD : Statement (.decD) :=
  show immBytesOf 0x15 + 1 = 1 ∧ 1 ≤ 1 ∧ 1 ≤ 3 by decide
theorem ldD_D8 (d8 : Byte) : Statement (.ldD_D8 d8) :=
  show immBytesOf 0x16 + 1 = 2 ∧ 1 ≤ 2 ∧ 2 ≤ 3 by decide
theorem jr (e : Int) : Statement (.jr e) :=
  show immBytesOf 0x18 + 1 = 2 ∧ 1 ≤ 2 ∧ 2 ≤ 3 by decide
theorem decDE : Statement (.decDE) :=
  show immBytesOf 0x1B + 1 = 1 ∧ 1 ≤ 1 ∧ 1 ≤ 3 by decide
theorem incE : Statement (.incE) :=
  show immBytesOf 0x1C + 1 = 1 ∧ 1 ≤ 1 ∧ 1 ≤ 3 by decide
theorem decE : Statement (.decE) :=
  show immBytesOf 0x1D + 1 = 1 ∧ 1 ≤ 1 ∧ 1 ≤ 3 by decide
theorem ldE_D8 (d8 : Byte) : Statement (.ldE_D8 d8) :=
  show immBytesOf 0x1E + 1 = 2 ∧ 1 ≤ 2 ∧ 2 ≤ 3 by decide
theorem jrNZ (e : Int) : Statement (.jrNZ e) :=
  show immBytesOf 0x20 + 1 = 2 ∧ 1 ≤ 2 ∧ 2 ≤ 3 by decide
theorem ldHL_D16 (d16 : Word) : Statement (.ldHL_D16 d16) :=
  show immBytesOf 0x21 + 1 = 3 ∧ 1 ≤ 3 ∧ 3 ≤ 3 by decide
theorem incHL : Statement (.incHL) :=
  show immBytesOf 0x23 + 1 = 1 ∧ 1 ≤ 1 ∧ 1 ≤ 3 by decide
theorem incH : Statement (.incH) :=
  show immBytesOf 0x24 + 1 = 1 ∧ 1 ≤ 1 ∧ 1 ≤ 3 by decide
theorem decH : Statement (.decH) :=
  show immBytesOf 0x25 + 1 = 1 ∧ 1 ≤ 1 ∧ 1 ≤ 3 by decide
theorem ldH_D8 (d8 : Byte) : Statement (.ldH_D8 d8) :=
  show immBytesOf 0x26 + 1 = 2 ∧ 1 ≤ 2 ∧ 2 ≤ 3 by decide
theorem jrZ (e : Int) : Statement (.jrZ e) :=
  show immBytesOf 0x28 + 1 = 2 ∧ 1 ≤ 2 ∧ 2 ≤ 3 by decide
theorem decHL : Statement (.decHL) :=
  show immBytesOf 0x2B + 1 = 1 ∧ 1 ≤ 1 ∧ 1 ≤ 3 by decide
theorem incL : Statement (.incL) :=
  show immBytesOf 0x2C + 1 = 1 ∧ 1 ≤ 1 ∧ 1 ≤ 3 by decide
theorem decL : Statement (.decL) :=
  show immBytesOf 0x2D + 1 = 1 ∧ 1 ≤ 1 ∧ 1 ≤ 3 by decide
theorem ldL_D8 (d8 : Byte) : Statement (.ldL_D8 d8) :=
  show immBytesOf 0x2E + 1 = 2 ∧ 1 ≤ 2 ∧ 2 ≤ 3 by decide
theorem jrNC (e : Int) : Statement (.jrNC e) :=
  show immBytesOf 0x30 + 1 = 2 ∧ 1 ≤ 2 ∧ 2 ≤ 3 by decide
theorem ldSP_D16 (d16 : Word) : Statement (.ldSP_D16 d16) :=
  show immBytesOf 0x31 + 1 = 3 ∧ 1 ≤ 3 ∧ 3 ≤ 3 by decide
theorem incSP : Statement (.incSP) :=
  show immBytesOf 0x33 + 1 = 1 ∧ 1 ≤ 1 ∧ 1 ≤ 3 by decide
theorem incAtHL : Statement (.incAtHL) :=
  show immBytesOf 0x34 + 1 = 1 ∧ 1 ≤ 1 ∧ 1 ≤ 3 by decide
theorem decAtHL : Statement (.decAtHL) :=
  show immBytesOf 0x35 + 1 = 1 ∧ 1 ≤ 1 ∧ 1 ≤ 3 by decide
theorem ldAtHL_D8 (d8 : Byte) : Statement (.ldAtHL_D8 d8) :=
  show immBytesOf 0x36 + 1 = 2 ∧ 1 ≤ 2 ∧ 2 ≤ 3 by decide
theorem jrC (e : Int) : Statement (.jrC e) :=
  show immBytesOf 0x38 + 1 = 2 ∧ 1 ≤ 2 ∧ 2 ≤ 3 by decide
theorem decSP : Statement (.decSP) :=
  show immBytesOf 0x3B + 1 = 1 ∧ 1 ≤ 1 ∧ 1 ≤ 3 by decide
theorem incA : Statement (.incA) :=
  show immBytesOf 0x3C + 1 = 1 ∧ 1 ≤ 1 ∧ 1 ≤ 3 by decide
theorem decA : Statement (.decA) :=
  show immBytesOf 0x3D + 1 = 1 ∧ 1 ≤ 1 ∧ 1 ≤ 3 by decide
theorem ldA_D8 (d8 : Byte) : Statement (.ldA_D8 d8) :=
  show immBytesOf 0x3E + 1 = 2 ∧ 1 ≤ 2 ∧ 2 ≤ 3 by decide
theorem ldB_B : Statement (.ldB_B) :=
  show immBytesOf 0x40 + 1 = 1 ∧ 1 ≤ 1 ∧ 1 ≤ 3 by decide
theorem ldB_C : Statement (.ldB_C) :=
  show immBytesOf 0x41 + 1 = 1 ∧ 1 ≤ 1 ∧ 1 ≤ 3 by decide
theorem ldB_D : Statement (.ldB_D) :=
  show immBytesOf 0x42 + 1 = 1 ∧ 1 ≤ 1 ∧ 1 ≤ 3 by decide
theorem ldB_E : Statement (.ldB_E) :=
  show immBytesOf 0x43 + 1 = 1 ∧ 1 ≤ 1 ∧ 1 ≤ 3 by decide
theorem ldB_H : Statement (.ldB_H) :=
  show immBytesOf 0x44 + 1 = 1 ∧ 1 ≤ 1 ∧ 1 ≤ 3 by decide
theorem ldB_L : Statement (.ldB_L) :=
  show immBytesOf 0x45 + 1 = 1 ∧ 1 ≤ 1 ∧ 1 ≤ 3 by decide
theorem ldB_AtHL : Statement (.ldB_AtHL) :=
  show immBytesOf 0x46 + 1 = 1 ∧ 1 ≤ 1 ∧ 1 ≤ 3 by decide
theorem ldB_A : Statement (.ldB_A) :=
  show immBytesOf 0x47 + 1 = 1 ∧ 1 ≤ 1 ∧ 1 ≤ 3 by decide
theorem ldC_B : Statement (.ldC_B) :=
  show immBytesOf 0x48 + 1 = 1 ∧ 1 ≤ 1 ∧ 1 ≤ 3 by decide
theorem ldC_C : Statement (.ldC_C) :=
  show immBytesOf 0x49 + 1 = 1 ∧ 1 ≤ 1 ∧ 1 ≤ 3 by decide
theorem ldC_D : Statement (.ldC_D) :=
  show immBytesOf 0x4A + 1 = 1 ∧ 1 ≤ 1 ∧ 1 ≤ 3 by decide
theorem ldC_E : Statement (.ldC_E) :=
  show immBytesOf 0x4B + 1 = 1 ∧ 1 ≤ 1 ∧ 1 ≤ 3 by decide
theorem ldC_H : Statement (.ldC_H) :=
  show immBytesOf 0x4C + 1 = 1 ∧ 1 ≤ 1 ∧ 1 ≤ 3 by decide
theorem ldC_L : Statement (.ldC_L) :=
  show immBytesOf 0x4D + 1 = 1 ∧ 1 ≤ 1 ∧ 1 ≤ 3 by decide
theorem ldC_AtHL : Statement (.ldC_AtHL) :=
  show immBytesOf 0x4E + 1 = 1 ∧ 1 ≤ 1 ∧ 1 ≤ 3 by decide
theorem ldC_A : Statement (.ldC_A) :=
  show immBytesOf 0x4F + 1 = 1 ∧ 1 ≤ 1 ∧ 1 ≤ 3 by decide
theorem ldD_B : Statement (.ldD_B) :=
  show immBytesOf 0x50 + 1 = 1 ∧ 1 ≤ 1 ∧ 1 ≤ 3 by decide
theorem ldD_C : Statement (.ldD_C) :=
  show immBytesOf 0x51 + 1 = 1 ∧ 1 ≤ 1 ∧ 1 ≤ 3 by decide
theorem ldD_D : Statement (.ldD_D) :=
  show immBytesOf 0x52 + 1 = 1 ∧ 1 ≤ 1 ∧ 1 ≤ 3 by decide
theorem ldD_E : Statement (.ldD_E) :=
  show immBytesOf 0x53 + 1 = 1 ∧ 1 ≤ 1 ∧ 1 ≤ 3 by decide
theorem ldD_H : Statement (.ldD_H) :=
  show immBytesOf 0x54 + 1 = 1 ∧ 1 ≤ 1 ∧ 1 ≤ 3 by decide
theorem ldD_L : Statement (.ldD_L) :=
  show immBytesOf 0x55 + 1 = 1 ∧ 1 ≤ 1 ∧ 1 ≤ 3 by decide
theorem ldD_AtHL : Statement (.ldD_AtHL) :=
  show immBytesOf 0x56 + 1 = 1 ∧ 1 ≤ 1 ∧ 1 ≤ 3 by decide
theorem ldD_A : Statement (.ldD_A) :=
  show immBytesOf 0x57 + 1 = 1 ∧ 1 ≤ 1 ∧ 1 ≤ 3 by decide
theorem ldE_B : Statement (.ldE_B) :=
  show immBytesOf 0x58 + 1 = 1 ∧ 1 ≤ 1 ∧ 1 ≤ 3 by decide
theorem ldE_C : Statement (.ldE_C) :=
  show immBytesOf 0x59 + 1 = 1 ∧ 1 ≤ 1 ∧ 1 ≤ 3 by decide
theorem ldE_D : Statement (.ldE_D) :=
  show immBytesOf 0x5A + 1 = 1 ∧ 1 ≤ 1 ∧ 1 ≤ 3 by decide
theorem ldE_E : Statement (.ldE_E) :=
  show immBytesOf 0x5B + 1 = 1 ∧ 1 ≤ 1 ∧ 1 ≤ 3 by decide
theorem ldE_H : Statement (.ldE_H) :=
  show immBytesOf 0x5C + 1 = 1 ∧ 1 ≤ 1 ∧ 1 ≤ 3 by decide
theorem ldE_L : Statement (.ldE_L) :=
  show immBytesOf 0x5D + 1 = 1 ∧ 1 ≤ 1 ∧ 1 ≤ 3 by decide
theorem ldE_AtHL : Statement (.ldE_AtHL) :=
  show immBytesOf 0x5E + 1 = 1 ∧ 1 ≤ 1 ∧ 1 ≤ 3 by decide
theorem ldE_A : Statement (.ldE_A) :=
  show immBytesOf 0x5F + 1 = 1 ∧ 1 ≤ 1 ∧ 1 ≤ 3 by decide
theorem ldH_B : Statement (.ldH_B) :=
  show immBytesOf 0x60 + 1 = 1 ∧ 1 ≤ 1 ∧ 1 ≤ 3 by decide
theorem ldH_C : Statement (.ldH_C) :=
  show immBytesOf 0x61 + 1 = 1 ∧ 1 ≤ 1 ∧ 1 ≤ 3 by decide
theorem ldH_D : Statement (.ldH_D) :=
  show immBytesOf 0x62 + 1 = 1 ∧ 1 ≤ 1 ∧ 1 ≤ 3 by decide
theorem ldH_E : Statement (.ldH_E) :=
  show immBytesOf 0x63 + 1 = 1 ∧ 1 ≤ 1 ∧ 1 ≤ 3 by decide
theorem ldH_H : Statement (.ldH_H) :=
  show immBytesOf 0x64 + 1 = 1 ∧ 1 ≤ 1 ∧ 1 ≤ 3 by decide
theorem ldH_L : Statement (.ldH_L) :=
  show immBytesOf 0x65 + 1 = 1 ∧ 1 ≤ 1 ∧ 1 ≤ 3 by decide
theorem ldH_AtHL : Statement (.ldH_AtHL) :=
  show immBytesOf 0x66 + 1 = 1 ∧ 1 ≤ 1 ∧ 1 ≤ 3 by decide
theorem ldH_A : Statement (.ldH_A) :=
  show immBytesOf 0x67 + 1 = 1 ∧ 1 ≤ 1 ∧ 1 ≤ 3 by decide
theorem ldL_B : Statement (.ldL_B) :=
  show immBytesOf 0x68 + 1 = 1 ∧ 1 ≤ 1 ∧ 1 ≤ 3 by decide
theorem ldL_C : Statement (.ldL_C) :=
  show immBytesOf 0x69 + 1 = 1 ∧ 1 ≤ 1 ∧ 1 ≤ 3 by decide
theorem ldL_D : Statement (.ldL_D) :=
  show immBytesOf 0x6A + 1 = 1 ∧ 1 ≤ 1 ∧ 1 ≤ 3 by decide
theorem ldL_E : Statement (.ldL_E) :=
  show immBytesOf 0x6B + 1 = 1 ∧ 1 ≤ 1 ∧ 1 ≤ 3 by decide
theorem ldL_H : Statement (.ldL_H) :=
  show immBytesOf 0x6C + 1 = 1 ∧ 1 ≤ 1 ∧ 1 ≤ 3 by decide
theorem ldL_L : Statement (.ldL_L) :=
  show immBytesOf 0x6D + 1 = 1 ∧ 1 ≤ 1 ∧ 1 ≤ 3 by decide
theorem ldL_AtHL : Statement (.ldL_AtHL) :=
  show immBytesOf 0x6E + 1 = 1 ∧ 1 ≤ 1 ∧ 1 ≤ 3 by decide
theorem ldL_A : Statement (.ldL_A) :=
  show immBytesOf 0x6F + 1 = 1 ∧ 1 ≤ 1 ∧ 1 ≤ 3 by decide
theorem ldAtHL_B : Statement (.ldAtHL_B) :=
  show immBytesOf 0x70 + 1 = 1 ∧ 1 ≤ 1 ∧ 1 ≤ 3 by decide
theorem ldAtHL_C : Statement (.ldAtHL_C) :=
  show immBytesOf 0x71 + 1 = 1 ∧ 1 ≤ 1 ∧ 1 ≤ 3 by decide
theorem ldAtHL_D : Statement (.ldAtHL_D) :=
  show immBytesOf 0x72 + 1 = 1 ∧ 1 ≤ 1 ∧ 1 ≤ 3 by decide
theorem ldAtHL_E : Statement (.ldAtHL_E) :=
  show immBytesOf 0x73 + 1 = 1 ∧ 1 ≤ 1 ∧ 1 ≤ 3 by decide
theorem ldAtHL_H : Statement (.ldAtHL_H) :=
  show immBytesOf 0x74 + 1 = 1 ∧ 1 ≤ 1 ∧ 1 ≤ 3 by decide
theorem ldAtHL_L : Statement (.ldAtHL_L) :=
  show immBytesOf 0x75 + 1 = 1 ∧ 1 ≤ 1 ∧ 1 ≤ 3 by decide
theorem halt : Statement (.halt) :=
  show immBytesOf 0x76 + 1 = 1 ∧ 1 ≤ 1 ∧ 1 ≤ 3 by decide
theorem ldAtHL_A : Statement (.ldAtHL_A) :=
  show immBytesOf 0x77 + 1 = 1 ∧ 1 ≤ 1 ∧ 1 ≤ 3 by decide
theorem ldA_B : Statement (.ldA_B) :=
  show immBytesOf 0x78 + 1 = 1 ∧ 1 ≤ 1 ∧ 1 ≤ 3 by decide
theorem ldA_C : Statement (.ldA_C) :=
  show immBytesOf 0x79 + 1 = 1 ∧ 1 ≤ 1 ∧ 1 ≤ 3 by decide
theorem ldA_D : Statement (.ldA_D) :=
  show immBytesOf 0x7A + 1 = 1 ∧ 1 ≤ 1 ∧ 1 ≤ 3 by decide
theorem ldA_E : Statement (.ldA_E) :=
  show immBytesOf 0x7B + 1 = 1 ∧ 1 ≤ 1 ∧ 1 ≤ 3 by decide
theorem ldA_H : Statement (.ldA_H) :=
  show immBytesOf 0x7C + 1 = 1 ∧ 1 ≤ 1 ∧ 1 ≤ 3 by decide
theorem ldA_L : Statement (.ldA_L) :=
  show immBytesOf 0x7D + 1 = 1 ∧ 1 ≤ 1 ∧ 1 ≤ 3 by decide
theorem ldA_AtHL : Statement (.ldA_AtHL) :=
  show immBytesOf 0x7E + 1 = 1 ∧ 1 ≤ 1 ∧ 1 ≤ 3 by decide
theorem ldA_A : Statement (.ldA_A) :=
  show immBytesOf 0x7F + 1 = 1 ∧ 1 ≤ 1 ∧ 1 ≤ 3 by decide
theorem addA_B : Statement (.addA_B) :=
  show immBytesOf 0x80 + 1 = 1 ∧ 1 ≤ 1 ∧ 1 ≤ 3 by decide
theorem addA_C : Statement (.addA_C) :=
  show immBytesOf 0x81 + 1 = 1 ∧ 1 ≤ 1 ∧ 1 ≤ 3 by decide
theorem addA_D : Statement (.addA_D) :=
  show immBytesOf 0x82 + 1 = 1 ∧ 1 ≤ 1 ∧ 1 ≤ 3 by decide
theorem addA_E : Statement (.addA_E) :=
  show immBytesOf 0x83 + 1 = 1 ∧ 1 ≤ 1 ∧ 1 ≤ 3 by decide
theorem addA_H : Statement (.addA_H) :=
  show immBytesOf 0x84 + 1 = 1 ∧ 1 ≤ 1 ∧ 1 ≤ 3 by decide
theorem addA_L : Statement (.addA_L) :=
  show immBytesOf 0x85 + 1 = 1 ∧ 1 ≤ 1 ∧ 1 ≤ 3 by decide
theorem addA_AtHL : Statement (.addA_AtHL) :=
  show immBytesOf 0x86 + 1 = 1 ∧ 1 ≤ 1 ∧ 1 ≤ 3 by decide
theorem addA_A : Statement (.addA_A) :=
  show immBytesOf 0x87 + 1 = 1 ∧ 1 ≤ 1 ∧ 1 ≤ 3 by decide
theorem adcA_B : Statement (.adcA_B) :=
  show immBytesOf 0x88 + 1 = 1 ∧ 1 ≤ 1 ∧ 1 ≤ 3 by decide
theorem adcA_C : Statement (.adcA_C) :=
  show immBytesOf 0x89 + 1 = 1 ∧ 1 ≤ 1 ∧ 1 ≤ 3 by decide
theorem adcA_D : Statement (.adcA_D) :=
  show immBytesOf 0x8A + 1 = 1 ∧ 1 ≤ 1 ∧ 1 ≤ 3 by decide
theorem adcA_E : Statement (.adcA_E) :=
  show immBytesOf 0x8B + 1 = 1 ∧ 1 ≤ 1 ∧ 1 ≤ 3 by decide
theorem adcA_H : Statement (.adcA_H) :=
  show immBytesOf 0x8C + 1 = 1 ∧ 1 ≤ 1 ∧ 1 ≤ 3 by decide
theorem adcA_L : Statement (.adcA_L) :=
  show immBytesOf 0x8D + 1 = 1 ∧ 1 ≤ 1 ∧ 1 ≤ 3 by decide
theorem adcA_AtHL : Statement (.adcA_AtHL) :=
  show immBytesOf 0x8E + 1 = 1 ∧ 1 ≤ 1 ∧ 1 ≤ 3 by decide
theorem adcA_A : Statement (.adcA_A) :=
  show immBytesOf 0x8F + 1 = 1 ∧ 1 ≤ 1 ∧ 1 ≤ 3 by decide
theorem subA_B : Statement (.subA_B) :=
  show immBytesOf 0x90 + 1 = 1 ∧ 1 ≤ 1 ∧ 1 ≤ 3 by decide
theorem subA_C : Statement (.subA_C) :=
  show immBytesOf 0x91 + 1 = 1 ∧ 1 ≤ 1 ∧ 1 ≤ 3 by decide
theorem subA_D : Statement (.subA_D) :=
  show immBytesOf 0x92 + 1 = 1 ∧ 1 ≤ 1 ∧ 1 ≤ 3 by decide
theorem subA_E : Statement (.subA_E) :=
  show immBytesOf 0x93 + 1 = 1 ∧ 1 ≤ 1 ∧ 1 ≤ 3 by decide
theorem subA_H : Statement (.subA_H) :=
  show immBytesOf 0x94 + 1 = 1 ∧ 1 ≤ 1 ∧ 1 ≤ 3 by decide
theorem subA_L : Statement (.subA_L) :=
  show immBytesOf 0x95 + 1 = 1 ∧ 1 ≤ 1 ∧ 1 ≤ 3 by decide
theorem subA_AtHL : Statement (.subA_AtHL) :=
  show immBytesOf 0x96 + 1 = 1 ∧ 1 ≤ 1 ∧ 1 ≤ 3 by decide
theorem subA_A : Statement (.subA_A) :=
  show immBytesOf 0x97 + 1 = 1 ∧ 1 ≤ 1 ∧ 1 ≤ 3 by decide
theorem sbcA_B : Statement (.sbcA_B) :=
  show immBytesOf 0x98 + 1 = 1 ∧ 1 ≤ 1 ∧ 1 ≤ 3 by decide
theorem sbcA_C : Statement (.sbcA_C) :=
  show immBytesOf 0x99 + 1 = 1 ∧ 1 ≤ 1 ∧ 1 ≤ 3 by decide
theorem sbcA_D : Statement (.sbcA_D) :=
  show immBytesOf 0x9A + 1 = 1 ∧ 1 ≤ 1 ∧ 1 ≤ 3 by decide
theorem sbcA_E : Statement (.sbcA_E) :=
  show immBytesOf 0x9B + 1 = 1 ∧ 1 ≤ 1 ∧ 1 ≤ 3 by decide
theorem sbcA_H : Statement (.sbcA_H) :=
  show immBytesOf 0x9C + 1 = 1 ∧ 1 ≤ 1 ∧ 1 ≤ 3 by decide
theorem sbcA_L : Statement (.sbcA_L) :=
  show immBytesOf 0x9D + 1 = 1 ∧ 1 ≤ 1 ∧ 1 ≤ 3 by decide
theorem sbcA_AtHL : Statement (.sbcA_AtHL) :=
  show immBytesOf 0x9E + 1 = 1 ∧ 1 ≤ 1 ∧ 1 ≤ 3 by decide
theorem sbcA_A : Statement (.sbcA_A) :=
  show immBytesOf 0x9F + 1 = 1 ∧ 1 ≤ 1 ∧ 1 ≤ 3 by decide
theorem andA_B : Statement (.andA_B) :=
  show immBytesOf 0xA0 + 1 = 1 ∧ 1 ≤ 1 ∧ 1 ≤ 3 by decide
theorem andA_C : Statement (.andA_C) :=
  show immBytesOf 0xA1 + 1 = 1 ∧ 1 ≤ 1 ∧ 1 ≤ 3 by decide
theorem andA_D : Statement (.andA_D) :=
  show immBytesOf 0xA2 + 1 = 1 ∧ 1 ≤ 1 ∧ 1 ≤ 3 by decide
theorem andA_E : Statement (.andA_E) :=
  show immBytesOf 0xA3 + 1 = 1 ∧ 1 ≤ 1 ∧ 1 ≤ 3 by decide
theorem andA_H : Statement (.andA_H) :=
  show immBytesOf 0xA4 + 1 = 1 ∧ 1 ≤ 1 ∧ 1 ≤ 3 by decide
theorem andA_L : Statement (.andA_L) :=
  show immBytesOf 0xA5 + 1 = 1 ∧ 1 ≤ 1 ∧ 1 ≤ 3 by decide
theorem andA_AtHL : Statement (.andA_AtHL) :=
  show immBytesOf 0xA6 + 1 = 1 ∧ 1 ≤ 1 ∧ 1 ≤ 3 by decide
theorem andA_A : Statement (.andA_A) :=
  show immBytesOf 0xA7 + 1 = 1 ∧ 1 ≤ 1 ∧ 1 ≤ 3 by decide
theorem xorA_B : Statement (.xorA_B) :=
  show immBytesOf 0xA8 + 1 = 1 ∧ 1 ≤ 1 ∧ 1 ≤ 3 by decide
theorem xorA_C : Statement (.xorA_C) :=
  show immBytesOf 0xA9 + 1 = 1 ∧ 1 ≤ 1 ∧ 1 ≤ 3 by decide
theorem xorA_D : Statement (.xorA_D) :=
  show immBytesOf 0xAA + 1 = 1 ∧ 1 ≤ 1 ∧ 1 ≤ 3 by decide
theorem xorA_E : Statement (.xorA_E) :=
  show immBytesOf 0xAB + 1 = 1 ∧ 1 ≤ 1 ∧ 1 ≤ 3 by decide
theorem xorA_H : Statement (.xorA_H) :=
  show immBytesOf 0xAC + 1 = 1 ∧ 1 ≤ 1 ∧ 1 ≤ 3 by decide
theorem xorA_L : Statement (.xorA_L) :=
  show immBytesOf 0xAD + 1 = 1 ∧ 1 ≤ 1 ∧ 1 ≤ 3 by decide
theorem xorA_AtHL : Statement (.xorA_AtHL) :=
  show immBytesOf 0xAE + 1 = 1 ∧ 1 ≤ 1 ∧ 1 ≤ 3 by decide
theorem xorA_A : Statement (.xorA_A) :=
  show immBytesOf 0xAF + 1 = 1 ∧ 1 ≤ 1 ∧ 1 ≤ 3 by decide
theorem orA_B : Statement (.orA_B) :=
  show immBytesOf 0xB0 + 1 = 1 ∧ 1 ≤ 1 ∧ 1 ≤ 3 by decide
theorem orA_C : Statement (.orA_C) :=
  show immBytesOf 0xB1 + 1 = 1 ∧ 1 ≤ 1 ∧ 1 ≤ 3 by decide
theorem orA_D : Statement (.orA_D) :=
  show immBytesOf 0xB2 + 1 = 1 ∧ 1 ≤ 1 ∧ 1 ≤ 3 by decide
theorem orA_E : Statement (.orA_E) :=
  show immBytesOf 0xB3 + 1 = 1 ∧ 1 ≤ 1 ∧ 1 ≤ 3 by decide
theorem orA_H : Statement (.orA_H) :=
  show immBytesOf 0xB4 + 1 = 1 ∧ 1 ≤ 1 ∧ 1 ≤ 3 by decide
theorem orA_L : Statement (.orA_L) :=
  show immBytesOf 0xB5 + 1 = 1 ∧ 1 ≤ 1 ∧ 1 ≤ 3 by decide
theorem orA_AtHL : Statement (.orA_AtHL) :=
  show immBytesOf 0xB6 + 1 = 1 ∧ 1 ≤ 1 ∧ 1 ≤ 3 by decide
theorem orA_A : Statement (.orA_A) :=
  show immBytesOf 0xB7 + 1 = 1 ∧ 1 ≤ 1 ∧ 1 ≤ 3 by decide
theorem cpA_B : Statement (.cpA_B) :=
  show immBytesOf 0xB8 + 1 = 1 ∧ 1 ≤ 1 ∧ 1 ≤ 3 by decide
theorem cpA_C : Statement (.cpA_C) :=
  show immBytesOf 0xB9 + 1 = 1 ∧ 1 ≤ 1 ∧ 1 ≤ 3 by decide
theorem cpA_D : Statement (.cpA_D) :=
  show immBytesOf 0xBA + 1 = 1 ∧ 1 ≤ 1 ∧ 1 ≤ 3 by decide
theorem cpA_E : Statement (.cpA_E) :=
  show immBytesOf 0xBB + 1 = 1 ∧ 1 ≤ 1 ∧ 1 ≤ 3 by decide
theorem cpA_H : Statement (.cpA_H) :=
  show immBytesOf 0xBC + 1 = 1 ∧ 1 ≤ 1 ∧ 1 ≤ 3 by decide
theorem cpA_L : Statement (.cpA_L) :=
  show immBytesOf 0xBD + 1 = 1 ∧ 1 ≤ 1 ∧ 1 ≤ 3 by decide
theorem cpA_AtHL : Statement (.cpA_AtHL) :=
  show immBytesOf 0xBE + 1 = 1 ∧ 1 ≤ 1 ∧ 1 ≤ 3 by decide
theorem cpA_A : Statement (.cpA_A) :=
  show immBytesOf 0xBF + 1 = 1 ∧ 1 ≤ 1 ∧ 1 ≤ 3 by decide
theorem retNZ : Statement (.retNZ) :=
  show immBytesOf 0xC0 + 1 = 1 ∧ 1 ≤ 1 ∧ 1 ≤ 3 by decide
theorem popBC : Statement (.popBC) :=
  show immBytesOf 0xC1 + 1 = 1 ∧ 1 ≤ 1 ∧ 1 ≤ 3 by decide
theorem jpNZ (a16 : Word) : Statement (.jpNZ a16) :=
  show immBytesOf 0xC2 + 1 = 3 ∧ 1 ≤ 3 ∧ 3 ≤ 3 by decide
theorem callNZ (a16 : Word) : Statement (.callNZ a16) :=
  show immBytesOf 0xC4 + 1 = 3 ∧ 1 ≤ 3 ∧ 3 ≤ 3 by decide
theorem pushBC : Statement (.pushBC) :=
  show immBytesOf 0xC5 + 1 = 1 ∧ 1 ≤ 1 ∧ 1 ≤ 3 by decide
theorem addA_D8 (d8 : Byte) : Statement (.addA_D8 d8) :=
  show immBytesOf 0xC6 + 1 = 2 ∧ 1 ≤ 2 ∧ 2 ≤ 3 by decide
theorem rst00 : Statement (.rst00) :=
  show immBytesOf 0xC7 + 1 = 1 ∧ 1 ≤ 1 ∧ 1 ≤ 3 by decide
theorem retZ : Statement (.retZ) :=
  show immBytesOf 0xC8 + 1 = 1 ∧ 1 ≤ 1 ∧ 1 ≤ 3 by decide
theorem jpZ (a16 : Word) : Statement (.jpZ a16) :=
  show immBytesOf 0xCA + 1 = 3 ∧ 1 ≤ 3 ∧ 3 ≤ 3 by decide
theorem callZ (a16 : Word) : Statement (.callZ a16) :=
  show immBytesOf 0xCC + 1 = 3 ∧ 1 ≤ 3 ∧ 3 ≤ 3 by decide
theorem adcA_D8 (d8 : Byte) : Statement (.adcA_D8 d8) :=
  show immBytesOf 0xCE + 1 = 2 ∧ 1 ≤ 2 ∧ 2 ≤ 3 by decide
theorem rst08 : Statement (.rst08) :=
  show immBytesOf 0xCF + 1 = 1 ∧ 1 ≤ 1 ∧ 1 ≤ 3 by decide
theorem retNC : Statement (.retNC) :=
  show immBytesOf 0xD0 + 1 = 1 ∧ 1 ≤ 1 ∧ 1 ≤ 3 by decide
theorem popDE : Statement (.popDE) :=
  show immBytesOf 0xD1 + 1 = 1 ∧ 1 ≤ 1 ∧ 1 ≤ 3 by decide
theorem jpNC (a16 : Word) : Statement (.jpNC a16) :=
  show immBytesOf 0xD2 + 1 = 3 ∧ 1 ≤ 3 ∧ 3 ≤ 3 by decide
theorem callNC (a16 : Word) : Statement (.callNC a16) :=
  show immBytesOf 0xD4 + 1 = 3 ∧ 1 ≤ 3 ∧ 3 ≤ 3 by decide
theorem pushDE : Statement (.pushDE) :=
  show immBytesOf 0xD5 + 1 = 1 ∧ 1 ≤ 1 ∧ 1 ≤ 3 by decide
theorem subA_D8 (d8 : Byte) : Statement (.subA_D8 d8) :=
  show immBytesOf 0xD6 + 1 = 2 ∧ 1 ≤ 2 ∧ 2 ≤ 3 by decide
theorem rst10 : Statement (.rst10) :=
  show immBytesOf 0xD7 + 1 = 1 ∧ 1 ≤ 1 ∧ 1 ≤ 3 by decide
theorem retC : Statement (.retC) :=
  show immBytesOf 0xD8 + 1 = 1 ∧ 1 ≤ 1 ∧ 1 ≤ 3 by decide
theorem jpC (a16 : Word) : Statement (.jpC a16) :=
  show immBytesOf 0xDA + 1 = 3 ∧ 1 ≤ 3 ∧ 3 ≤ 3 by decide
theorem callC (a16 : Word) : Statement (.callC a16) :=
  show immBytesOf 0xDC + 1 = 3 ∧ 1 ≤ 3 ∧ 3 ≤ 3 by decide
theorem sbcA_D8 (d8 : Byte) : Statement (.sbcA_D8 d8) :=
  show immBytesOf 0xDE + 1 = 2 ∧ 1 ≤ 2 ∧ 2 ≤ 3 by decide
theorem rst18 : Statement (.rst18) :=
  show immBytesOf 0xDF + 1 = 1 ∧ 1 ≤ 1 ∧ 1 ≤ 3 by decide
theorem popHL : Statement (.popHL) :=
  show immBytesOf 0xE1 + 1 = 1 ∧ 1 ≤ 1 ∧ 1 ≤ 3 by decide
theorem pushHL : Statement (.pushHL) :=
  show immBytesOf 0xE5 + 1 = 1 ∧ 1 ≤ 1 ∧ 1 ≤ 3 by decide
theorem andA_D8 (d8 : Byte) : Statement (.andA_D8 d8) :=
  show immBytesOf 0xE6 + 1 = 2 ∧ 1 ≤ 2 ∧ 2 ≤ 3 by decide
theorem rst20 : Statement (.rst20) :=
  show immBytesOf 0xE7 + 1 = 1 ∧ 1 ≤ 1 ∧ 1 ≤ 3 by decide
theorem xorA_D8 (d8 : Byte) : Statement (.xorA_D8 d8) :=
  show immBytesOf 0xEE + 1 = 2 ∧ 1 ≤ 2 ∧ 2 ≤ 3 by decide
theorem rst28 : Statement (.rst28) :=
  show immBytesOf 0xEF + 1 = 1 ∧ 1 ≤ 1 ∧ 1 ≤ 3 by decide
theorem popAF : Statement (.popAF) :=
  show immBytesOf 0xF1 + 1 = 1 ∧ 1 ≤ 1 ∧ 1 ≤ 3 by decide
theorem pushAF : Statement (.pushAF) :=
  show immBytesOf 0xF5 + 1 = 1 ∧ 1 ≤ 1 ∧ 1 ≤ 3 by decide
theorem orA_D8 (d8 : Byte) : Statement (.orA_D8 d8) :=
  show immBytesOf 0xF6 + 1 = 2 ∧ 1 ≤ 2 ∧ 2 ≤ 3 by decide
theorem rst30 : Statement (.rst30) :=
  show immBytesOf 0xF7 + 1 = 1 ∧ 1 ≤ 1 ∧ 1 ≤ 3 by decide
theorem cpA_D8 (d8 : Byte) : Statement (.cpA_D8 d8) :=
  show immBytesOf 0xFE + 1 = 2 ∧ 1 ≤ 2 ∧ 2 ≤ 3 by decide
theorem rst38 : Statement (.rst38) :=
  show immBytesOf 0xFF + 1 = 1 ∧ 1 ≤ 1 ∧ 1 ≤ 3 by decide
theorem unimplemented02 : Statement (.unimplemented02) :=
  show immBytesOf 0x02 + 1 = 1 ∧ 1 ≤ 1 ∧ 1 ≤ 3 by decide
theorem unimplemented07 : Statement (.unimplemented07) :=
  show immBytesOf 0x07 + 1 = 1 ∧ 1 ≤ 1 ∧ 1 ≤ 3 by decide
theorem unimplemented08 : Statement (.unimplemented08) :=
  show immBytesOf 0x08 + 1 = 1 ∧ 1 ≤ 1 ∧ 1 ≤ 3 by decide
theorem unimplemented09 : Statement (.unimplemented09) :=
  show immBytesOf 0x09 + 1 = 1 ∧ 1 ≤ 1 ∧ 1 ≤ 3 by decide
theorem unimplemented0A : Statement (.unimplemented0A) :=
  show immBytesOf 0x0A + 1 = 1 ∧ 1 ≤ 1 ∧ 1 ≤ 3 by decide
theorem unimplemented0F : Statement (.unimplemented0F) :=
  show immBytesOf 0x0F + 1 = 1 ∧ 1 ≤ 1 ∧ 1 ≤ 3 by decide
theorem unimplemented10 : Statement (.unimplemented10) :=
  show immBytesOf 0x10 + 1 = 1 ∧ 1 ≤ 1 ∧ 1 ≤ 3 by decide
theorem unimplemented12 : Statement (.unimplemented12) :=
  show immBytesOf 0x12 + 1 = 1 ∧ 1 ≤ 1 ∧ 1 ≤ 3 by decide
theorem unimplemented17 : Statement (.unimplemented17) :=
  show immBytesOf 0x17 + 1 = 1 ∧ 1 ≤ 1 ∧ 1 ≤ 3 by decide
theorem unimplemented19 : Statement (.unimplemented19) :=
  show immBytesOf 0x19 + 1 = 1 ∧ 1 ≤ 1 ∧ 1 ≤ 3 by decide
theorem unimplemented1A : Statement (.unimplemented1A) :=
  show immBytesOf 0x1A + 1 = 1 ∧ 1 ≤ 1 ∧ 1 ≤ 3 by decide
theorem unimplemented1F : Statement (.unimplemented1F) :=
  show immBytesOf 0x1F + 1 = 1 ∧ 1 ≤ 1 ∧ 1 ≤ 3 by decide
theorem unimplemented22 : Statement (.unimplemented22) :=
  show immBytesOf 0x22 + 1 = 1 ∧ 1 ≤ 1 ∧ 1 ≤ 3 by decide
theorem unimplemented27 : Statement (.unimplemented27) :=
  show immBytesOf 0x27 + 1 = 1 ∧ 1 ≤ 1 ∧ 1 ≤ 3 by decide
theorem unimplemented29 : Statement (.unimplemented29) :=
  show immBytesOf 0x29 + 1 = 1 ∧ 1 ≤ 1 ∧ 1 ≤ 3 by decide
theorem unimplemented2A : Statement (.unimplemented2A) :=
  show immBytesOf 0x2A + 1 = 1 ∧ 1 ≤ 1 ∧ 1 ≤ 3 by decide
theorem unimplemented2F : Statement (.unimplemented2F) :=
  show immBytesOf 0x2F + 1 = 1 ∧ 1 ≤ 1 ∧ 1 ≤ 3 by decide
theorem unimplemented32 : Statement (.unimplemented32) :=
  show immBytesOf 0x32 + 1 = 1 ∧ 1 ≤ 1 ∧ 1 ≤ 3 by decide
theorem unimplemented37 : Statement (.unimplemented37) :=
  show immBytesOf 0x37 + 1 = 1 ∧ 1 ≤ 1 ∧ 1 ≤ 3 by decide
theorem unimplemented39 : Statement (.unimplemented39) :=
  show immBytesOf 0x39 + 1 = 1 ∧ 1 ≤ 1 ∧ 1 ≤ 3 by decide
theorem unimplemented3A : Statement (.unimplemented3A) :=
  show immBytesOf 0x3A + 1 = 1 ∧ 1 ≤ 1 ∧ 1 ≤ 3 by decide
theorem unimplemented3F : Statement (.unimplemented3F) :=
  show immBytesOf 0x3F + 1 = 1 ∧ 1 ≤ 1 ∧ 1 ≤ 3 by decide
theorem unimplementedC3 : Statement (.unimplementedC3) :=
  show immBytesOf 0xC3 + 1 = 1 ∧ 1 ≤ 1 ∧ 1 ≤ 3 by decide
theorem unimplementedC9 : Statement (.unimplementedC9) :=
  show immBytesOf 0xC9 + 1 = 1 ∧ 1 ≤ 1 ∧ 1 ≤ 3 by decide
theorem unimplementedCB : Statement (.unimplementedCB) :=
  show immBytesOf 0xCB + 1 = 1 ∧ 1 ≤ 1 ∧ 1 ≤ 3 by decide
theorem unimplementedCD : Statement (.unimplementedCD) :=
  show immBytesOf 0xCD + 1 = 1 ∧ 1 ≤ 1 ∧ 1 ≤ 3 by decide
theorem unimplementedD3 : Statement (.unimplementedD3) :=
  show immBytesOf 0xD3 + 1 = 1 ∧ 1 ≤ 1 ∧ 1 ≤ 3 by decide
theorem unimplementedD9 : Statement (.unimplementedD9) :=
  show immBytesOf 0xD9 + 1 = 1 ∧ 1 ≤ 1 ∧ 1 ≤ 3 by decide
theorem unimplementedDB : Statement (.unimplementedDB) :=
  show immBytesOf 0xDB + 1 = 1 ∧ 1 ≤ 1 ∧ 1 ≤ 3 by decide
theorem unimplementedDD : Statement (.unimplementedDD) :=
  show immBytesOf 0xDD + 1 = 1 ∧ 1 ≤ 1 ∧ 1 ≤ 3 by decide
theorem unimplementedE0 : Statement (.unimplementedE0) :=
  show immBytesOf 0xE0 + 1 = 1 ∧ 1 ≤ 1 ∧ 1 ≤ 3 by decide
theorem unimplementedE2 : Statement (.unimplementedE2) :=
  show immBytesOf 0xE2 + 1 = 1 ∧ 1 ≤ 1 ∧ 1 ≤ 3 by decide
theorem unimplementedE3 : Statement (.unimplementedE3) :=
  show immBytesOf 0xE3 + 1 = 1 ∧ 1 ≤ 1 ∧ 1 ≤ 3 by decide
theorem unimplementedE4 : Statement (.unimplementedE4) :=
  show immBytesOf 0xE4 + 1 = 1 ∧ 1 ≤ 1 ∧ 1 ≤ 3 by decide
theorem unimplementedE8 : Statement (.unimplementedE8) :=
  show immBytesOf 0xE8 + 1 = 1 ∧ 1 ≤ 1 ∧ 1 ≤ 3 by decide
theorem unimplementedE9 : Statement (.unimplementedE9) :=
  show immBytesOf 0xE9 + 1 = 1 ∧ 1 ≤ 1 ∧ 1 ≤ 3 by decide
theorem unimplementedEA : Statement (.unimplementedEA) :=
  show immBytesOf 0xEA + 1 = 1 ∧ 1 ≤ 1 ∧ 1 ≤ 3 by decide
theorem unimplementedEB : Statement (.unimplementedEB) :=
  show immBytesOf 0xEB + 1 = 1 ∧ 1 ≤ 1 ∧ 1 ≤ 3 by decide
theorem unimplementedEC : Statement (.unimplementedEC) :=
  show immBytesOf 0xEC + 1 = 1 ∧ 1 ≤ 1 ∧ 1 ≤ 3 by decide
theorem unimplementedED : Statement (.unimplementedED) :=
  show immBytesOf 0xED + 1 = 1 ∧ 1 ≤ 1 ∧ 1 ≤ 3 by decide
theorem unimplementedF0 : Statement (.unimplementedF0) :=
  show immBytesOf 0xF0 + 1 = 1 ∧ 1 ≤ 1 ∧ 1 ≤ 3 by decide
theorem unimplementedF2 : Statement (.unimplementedF2) :=
  show immBytesOf 0xF2 + 1 = 1 ∧ 1 ≤ 1 ∧ 1 ≤ 3 by decide
theorem unimplementedF3 : Statement (.unimplementedF3) :=
  show immBytesOf 0xF3 + 1 = 1 ∧ 1 ≤ 1 ∧ 1 ≤ 3 by decide
theorem unimplementedF4 : Statement (.unimplementedF4) :=
  show immBytesOf 0xF4 + 1 = 1 ∧ 1 ≤ 1 ∧ 1 ≤ 3 by decide
theorem unimplementedF8 : Statement (.unimplementedF8) :=
  show immBytesOf 0xF8 + 1 = 1 ∧ 1 ≤ 1 ∧ 1 ≤ 3 by decide
theorem unimplementedF9 : Statement (.unimplementedF9) :=
  show immBytesOf 0xF9 + 1 = 1 ∧ 1 ≤ 1 ∧ 1 ≤ 3 by decide
theorem unimplementedFA : Statement (.unimplementedFA) :=
  show immBytesOf 0xFA + 1 = 1 ∧ 1 ≤ 1 ∧ 1 ≤ 3 by decide
theorem unimplementedFB : Statement (.unimplementedFB) :=
  show immBytesOf 0xFB + 1 = 1 ∧ 1 ≤ 1 ∧ 1 ≤ 3 by decide
theorem unimplementedFC : Statement (.unimplementedFC) :=
  show immBytesOf 0xFC + 1 = 1 ∧ 1 ≤ 1 ∧ 1 ≤ 3 by decide
theorem unimplementedFD : Statement (.unimplementedFD) :=
  show immBytesOf 0xFD + 1 = 1 ∧ 1 ≤ 1 ∧ 1 ≤ 3 by decide

end Sys2Proof.Laws.EncodingLength
end

