-- ==== Sys2Proof/Laws/Step.lean ====
section
/-! SUPPORT. What a step can do, once (41_execution_loop.md R121, R122). -/

namespace Sys2Proof.Machine

theorem State.running_iff (s : State) :
    s.running = true ↔ s.fault = none ∧ s.halted = false ∧ s.pc.toNat < s.instrBound := by
  simp [State.running, and_assoc]

/-- A running state runs the instruction at PC. -/
theorem step_of_running {s : State} (h : s.running = true) : step s = s.runInstruction := by
  obtain ⟨hf, hh, hp⟩ := s.running_iff.1 h
  unfold step
  rw [hf]
  exact if_neg (by simp [hh, hp])

/-- A step answers the recorded fault, the same state where the run has ended, one instruction's execution, or a fetch's
fault. -/
theorem step_cases (s : State) :
    (∃ r, s.fault = some r ∧ step s = .fault r) ∨
    (s.fault = none ∧ s.running = false ∧ step s = .next s) ∨
    (∃ i, s.running = true ∧ step s = exec i s) ∨
    (∃ bad, s.running = true ∧ s.inBounds bad = false ∧ step s = .fault (.memoryOutOfBounds bad .read)) := by
  cases hr : s.running
  · cases hf : s.fault with
    | some r =>
      refine .inl ⟨r, rfl, ?_⟩
      unfold step
      rw [hf]
      rfl
    | none =>
      refine .inr (.inl ⟨rfl, rfl, ?_⟩)
      unfold step
      rw [hf]
      refine if_pos ?_
      by_contra hc
      rw [not_or, Bool.not_eq_true, Nat.not_le] at hc
      rw [s.running_iff.2 ⟨hf, hc⟩] at hr
      cases hr
  · rcases s.fetchThen_cases with ⟨i, -, hk⟩ | ⟨bad, hb, hk⟩
    · exact .inr (.inr (.inl ⟨i, rfl, (step_of_running hr).trans (hk _)⟩))
    · exact .inr (.inr (.inr ⟨bad, rfl, hb, (step_of_running hr).trans (hk _)⟩))

end Sys2Proof.Machine
end

