-- ==== Sys2Proof/Laws/Timing.lean ====
section
/-! SUPPORT. The cost of each form, in one place, and that the counter and the cycle table drive nothing else
(70_reset_and_hazards.md R330–R332). -/

namespace Sys2Proof.Machine

/-- The cost of a completed form under a cycle table, its condition read from the flag byte (R330). -/
def Form.cost (ct : CycleTable) (flags : Byte) : Form → Nat
  | .nop => ct.nop
  | .ldPairImm _ _ => ct.ldPairImm
  | .incPair _ | .decPair _ => ct.incDecPair
  | .incReg _ | .decReg _ => ct.incDecReg
  | .incAtHL | .decAtHL => ct.incDecAtHL
  | .ldRegImm _ _ => ct.ldRegImm
  | .ldAtHLImm _ => ct.ldAtHLImm
  | .jr _ => ct.jr
  | .jrCond cc _ => if condHolds flags cc then ct.jrTaken else ct.jrNotTaken
  | .ldRegReg _ _ => ct.ldRegReg
  | .ldRegAtHL _ => ct.ldRegAtHL
  | .ldAtHLReg _ => ct.ldAtHLReg
  | .halt => ct.halt
  | .aluReg _ _ => ct.aluReg
  | .aluAtHL _ => ct.aluAtHL
  | .aluImm _ _ => ct.aluImm
  | .retCond cc => if condHolds flags cc then ct.retTaken else ct.retNotTaken
  | .jpCond cc _ => if condHolds flags cc then ct.jpTaken else ct.jpNotTaken
  | .callCond cc _ => if condHolds flags cc then ct.callTaken else ct.callNotTaken
  | .rst _ => ct.rst
  | .push _ => ct.push
  | .pop _ => ct.pop
  | .unimplemented _ => 0

/-- The counter after a completed form. -/
theorem Form.result_cycles {f : Form} {s : State} (h : f.completes s = true) :
    (f.result s).cycles = s.cycles + BitVec.ofNat 64 (f.cost s.cfg.cycleTable s.f) := by
  cases f with
  | jrCond cc e => rw [Form.result, Form.cost]; split <;> rfl
  | retCond cc => rw [Form.result, Form.cost]; split <;> rfl
  | jpCond cc v => rw [Form.result, Form.cost]; split <;> rfl
  | callCond cc v => rw [Form.result, Form.cost]; split <;> rfl
  | ldPairImm p v => cases p <;> rfl
  | incPair p => cases p <;> rfl
  | decPair p => cases p <;> rfl
  | incReg r => cases r <;> rfl
  | decReg r => cases r <;> rfl
  | ldRegImm r v => cases r <;> rfl
  | ldRegReg dst src => cases dst <;> rfl
  | ldRegAtHL dst => cases dst <;> rfl
  | aluReg o src => cases o <;> rfl
  | aluAtHL o => cases o <;> rfl
  | aluImm o v => cases o <;> rfl
  | pop p => cases p <;> rfl
  | unimplemented op => cases h
  | nop => rfl
  | incAtHL => rfl
  | decAtHL => rfl
  | ldAtHLImm v => rfl
  | jr e => rfl
  | ldAtHLReg src => rfl
  | halt => rfl
  | rst t => rfl
  | push p => rfl

/-- `s` with another counter value and another cycle table. -/
def State.retimed (s : State) (n : BitVec 64) (ct : CycleTable) : State :=
  { s with cycles := n, cfg := { s.cfg with cycleTable := ct } }

theorem Form.completes_retimed (f : Form) (s : State) (n : BitVec 64) (ct : CycleTable) :
    f.completes (s.retimed n ct) = f.completes s := by cases f <;> rfl

theorem Form.stopFault_retimed (f : Form) (s : State) (n : BitVec 64) (ct : CycleTable) :
    f.stopFault (s.retimed n ct) = f.stopFault s := by cases f <;> rfl

/-- Retiming the state retimes a completed form's result and nothing else of it. -/
theorem Form.result_retimed {f : Form} {s : State} (h : f.completes s = true) (n : BitVec 64) (ct : CycleTable) :
    f.result (s.retimed n ct) = (f.result s).retimed (n + BitVec.ofNat 64 (f.cost ct s.f)) ct := by
  cases f with
  | jrCond cc e => cases h2 : condHolds s.f cc <;> simp [Form.result, Form.cost, State.retimed, h2] <;> rfl
  | retCond cc => cases h2 : condHolds s.f cc <;> simp [Form.result, Form.cost, State.retimed, h2] <;> rfl
  | jpCond cc v => cases h2 : condHolds s.f cc <;> simp [Form.result, Form.cost, State.retimed, h2] <;> rfl
  | callCond cc v => cases h2 : condHolds s.f cc <;> simp [Form.result, Form.cost, State.retimed, h2] <;> rfl
  | ldPairImm p v => cases p <;> rfl
  | incPair p => cases p <;> rfl
  | decPair p => cases p <;> rfl
  | incReg r => cases r <;> rfl
  | decReg r => cases r <;> rfl
  | ldRegImm r v => cases r <;> rfl
  | ldRegReg dst src => cases dst <;> cases src <;> rfl
  | ldRegAtHL dst => cases dst <;> rfl
  | aluReg o src => cases o <;> cases src <;> rfl
  | aluAtHL o => cases o <;> rfl
  | aluImm o v => cases o <;> rfl
  | pop p => cases p <;> rfl
  | unimplemented op => cases h
  | nop => rfl
  | incAtHL => rfl
  | decAtHL => rfl
  | ldAtHLImm v => rfl
  | jr e => rfl
  | ldAtHLReg src => cases src <;> rfl
  | halt => rfl
  | rst t => rfl
  | push p => cases p <;> rfl

end Sys2Proof.Machine
end

