-- ==== Sys2Proof/Tests/Slice0.lean ====
section
/-! SUPPORT. Tests of one step or one decoding each. Expected results are the spec's: spec/opcode_table.json for the
decoder, 95_test_vectors.md (each test names its vector) for the step. After them, for each statement with hypotheses, a
concrete state and operands that meet them. -/

open Sys2Proof Sys2Proof.Machine

namespace Sys2Proof.Tests

/-! ## Well-formedness: the offset of each relative jump lies in −128 .. 127 (30_encoding.md R62) -/

theorem test_wellFormed_accepts : [Instr.jr 127, .jr (-128), .jrNZ 127, .jrZ (-128), .jrNC 127, .jrC (-128)].all
    Instr.wellFormed = true := by decide
theorem test_wellFormed_refuses_jr_over : Instr.wellFormed (.jr 128) = false := by decide
theorem test_wellFormed_refuses_jr_under : Instr.wellFormed (.jr (-129)) = false := by decide
theorem test_wellFormed_refuses_jrNZ : Instr.wellFormed (.jrNZ 128) = false := by decide
theorem test_wellFormed_refuses_jrZ : Instr.wellFormed (.jrZ (-129)) = false := by decide
theorem test_wellFormed_refuses_jrNC : Instr.wellFormed (.jrNC 128) = false := by decide
theorem test_wellFormed_refuses_jrC : Instr.wellFormed (.jrC (-129)) = false := by decide

/-! ## Decoding: words written out bit by bit from the formats of 30_encoding.md, one or more per family -/

theorem test_bits_nop : decode [0b00000000] = .ok .nop [] := by decide
theorem test_bits_ldPair : decode [0b00000001, 0x34, 0x12] = .ok (.ldBC_D16 0x1234) [] := by decide
theorem test_bits_decPair : decode [0b00111011] = .ok .decSP [] := by decide
theorem test_bits_incAtHL : decode [0b00110100] = .ok .incAtHL [] := by decide
theorem test_bits_ldRegImm : decode [0b00111110, 0x99] = .ok (.ldA_D8 0x99) [] := by decide
theorem test_bits_jr : decode [0b00011000, 0b11111011] = .ok (.jr (-5)) [] := by decide
theorem test_bits_jrCond : decode [0b00101000, 0b10000000] = .ok (.jrZ (-128)) [] := by decide
theorem test_bits_ld : decode [0b01000111] = .ok .ldB_A [] := by decide
theorem test_bits_ld_mem : decode [0b01110001] = .ok .ldAtHL_C [] := by decide
theorem test_bits_halt : decode [0b01110110] = .ok .halt [] := by decide
theorem test_bits_alu : decode [0b10101010] = .ok .xorA_D [] := by decide
theorem test_bits_aluImm : decode [0b11001110, 0x00] = .ok (.adcA_D8 0x00) [] := by decide
theorem test_bits_ret : decode [0b11011000] = .ok .retC [] := by decide
theorem test_bits_jp : decode [0b11010010, 0x34, 0x12] = .ok (.jpNC 0x1234) [] := by decide
theorem test_bits_call : decode [0b11000100, 0x0E, 0x00] = .ok (.callNZ 0x000E) [] := by decide
theorem test_bits_rst : decode [0b11011111] = .ok .rst18 [] := by decide
theorem test_bits_push : decode [0b11110101] = .ok .pushAF [] := by decide
theorem test_bits_pop : decode [0b11010001] = .ok .popDE [] := by decide
theorem test_bits_unimplemented : decode [0b11001011, 0x37] = .ok .unimplementedCB [0x37] := by decide

/-! ## Decoding: every byte of the opcode map, row by row, with the bytes 34 12 after it -/

/-- The bytes `base`, `base + 1`, … each followed by 34 12 decode to the instructions listed. -/
def decodesRow (base : Nat) : List Instr → Bool
  | [] => true
  | i :: is =>
    (match decode [BitVec.ofNat 8 base, 0x34, 0x12] with
      | .ok j _ => i == j
      | .error _ => false) && decodesRow (base + 1) is

theorem test_row_00 : decodesRow 0x00
    [.nop, .ldBC_D16 0x1234, .unimplemented02, .incBC, .incB, .decB, .ldB_D8 0x34,
    .unimplemented07, .unimplemented08, .unimplemented09, .unimplemented0A, .decBC, .incC, .decC,
    .ldC_D8 0x34, .unimplemented0F] = true := by decide
theorem test_row_10 : decodesRow 0x10
    [.unimplemented10, .ldDE_D16 0x1234, .unimplemented12, .incDE, .incD, .decD, .ldD_D8 0x34,
    .unimplemented17, .jr 52, .unimplemented19, .unimplemented1A, .decDE, .incE, .decE,
    .ldE_D8 0x34, .unimplemented1F] = true := by decide
theorem test_row_20 : decodesRow 0x20
    [.jrNZ 52, .ldHL_D16 0x1234, .unimplemented22, .incHL, .incH, .decH, .ldH_D8 0x34,
    .unimplemented27, .jrZ 52, .unimplemented29, .unimplemented2A, .decHL, .incL, .decL,
    .ldL_D8 0x34, .unimplemented2F] = true := by decide
theorem test_row_30 : decodesRow 0x30
    [.jrNC 52, .ldSP_D16 0x1234, .unimplemented32, .incSP, .incAtHL, .decAtHL, .ldAtHL_D8 0x34,
    .unimplemented37, .jrC 52, .unimplemented39, .unimplemented3A, .decSP, .incA, .decA,
    .ldA_D8 0x34, .unimplemented3F] = true := by decide
theorem test_row_40 : decodesRow 0x40
    [.ldB_B, .ldB_C, .ldB_D, .ldB_E, .ldB_H, .ldB_L, .ldB_AtHL, .ldB_A, .ldC_B, .ldC_C, .ldC_D,
    .ldC_E, .ldC_H, .ldC_L, .ldC_AtHL, .ldC_A] = true := by decide
theorem test_row_50 : decodesRow 0x50
    [.ldD_B, .ldD_C, .ldD_D, .ldD_E, .ldD_H, .ldD_L, .ldD_AtHL, .ldD_A, .ldE_B, .ldE_C, .ldE_D,
    .ldE_E, .ldE_H, .ldE_L, .ldE_AtHL, .ldE_A] = true := by decide
theorem test_row_60 : decodesRow 0x60
    [.ldH_B, .ldH_C, .ldH_D, .ldH_E, .ldH_H, .ldH_L, .ldH_AtHL, .ldH_A, .ldL_B, .ldL_C, .ldL_D,
    .ldL_E, .ldL_H, .ldL_L, .ldL_AtHL, .ldL_A] = true := by decide
theorem test_row_70 : decodesRow 0x70
    [.ldAtHL_B, .ldAtHL_C, .ldAtHL_D, .ldAtHL_E, .ldAtHL_H, .ldAtHL_L, .halt, .ldAtHL_A, .ldA_B,
    .ldA_C, .ldA_D, .ldA_E, .ldA_H, .ldA_L, .ldA_AtHL, .ldA_A] = true := by decide
theorem test_row_80 : decodesRow 0x80
    [.addA_B, .addA_C, .addA_D, .addA_E, .addA_H, .addA_L, .addA_AtHL, .addA_A, .adcA_B, .adcA_C,
    .adcA_D, .adcA_E, .adcA_H, .adcA_L, .adcA_AtHL, .adcA_A] = true := by decide
theorem test_row_90 : decodesRow 0x90
    [.subA_B, .subA_C, .subA_D, .subA_E, .subA_H, .subA_L, .subA_AtHL, .subA_A, .sbcA_B, .sbcA_C,
    .sbcA_D, .sbcA_E, .sbcA_H, .sbcA_L, .sbcA_AtHL, .sbcA_A] = true := by decide
theorem test_row_A0 : decodesRow 0xA0
    [.andA_B, .andA_C, .andA_D, .andA_E, .andA_H, .andA_L, .andA_AtHL, .andA_A, .xorA_B, .xorA_C,
    .xorA_D, .xorA_E, .xorA_H, .xorA_L, .xorA_AtHL, .xorA_A] = true := by decide
theorem test_row_B0 : decodesRow 0xB0
    [.orA_B, .orA_C, .orA_D, .orA_E, .orA_H, .orA_L, .orA_AtHL, .orA_A, .cpA_B, .cpA_C, .cpA_D,
    .cpA_E, .cpA_H, .cpA_L, .cpA_AtHL, .cpA_A] = true := by decide
theorem test_row_C0 : decodesRow 0xC0
    [.retNZ, .popBC, .jpNZ 0x1234, .unimplementedC3, .callNZ 0x1234, .pushBC, .addA_D8 0x34,
    .rst00, .retZ, .unimplementedC9, .jpZ 0x1234, .unimplementedCB, .callZ 0x1234,
    .unimplementedCD, .adcA_D8 0x34, .rst08] = true := by decide
theorem test_row_D0 : decodesRow 0xD0
    [.retNC, .popDE, .jpNC 0x1234, .unimplementedD3, .callNC 0x1234, .pushDE, .subA_D8 0x34,
    .rst10, .retC, .unimplementedD9, .jpC 0x1234, .unimplementedDB, .callC 0x1234,
    .unimplementedDD, .sbcA_D8 0x34, .rst18] = true := by decide
theorem test_row_E0 : decodesRow 0xE0
    [.unimplementedE0, .popHL, .unimplementedE2, .unimplementedE3, .unimplementedE4, .pushHL,
    .andA_D8 0x34, .rst20, .unimplementedE8, .unimplementedE9, .unimplementedEA, .unimplementedEB,
    .unimplementedEC, .unimplementedED, .xorA_D8 0x34, .rst28] = true := by decide
theorem test_row_F0 : decodesRow 0xF0
    [.unimplementedF0, .popAF, .unimplementedF2, .unimplementedF3, .unimplementedF4, .pushAF,
    .orA_D8 0x34, .rst30, .unimplementedF8, .unimplementedF9, .unimplementedFA, .unimplementedFB,
    .unimplementedFC, .unimplementedFD, .cpA_D8 0x34, .rst38] = true := by decide

/-! ## One step each, from 95_test_vectors.md part L2 -/

/-- `s` with bytes at an address, PC there, and the step running whatever PC is (95_test_vectors.md, conventions). -/
def start (s : State) (addr : Word) (bytes : List Byte) : State :=
  { s.placeBytes addr bytes with pc := addr, instrBound := 65536 }

/-- The step answers a next state that meets `p`. -/
def steps (s : State) (p : State → Bool) : Bool :=
  match step s with
  | .next t => p t
  | _ => false

/-- The step answers this fault. -/
def stops (s : State) (r : Fault) : Bool :=
  match step s with
  | .fault q => r == q
  | _ => false

theorem test_V_ALU_1 : steps (start { State.reset with a := 0x0F, b := 0x01 } 0x0100 [0x80]) (fun t =>
    t.a == 0x10 && t.f == 0x20 && t.pc == 0x0101 && t.cycles == 1) = true := by decide
theorem test_V_ALU_2 : steps (start { State.reset with a := 0xFF, b := 0x01 } 0x0100 [0x80]) (fun t =>
    t.a == 0x00 && t.f == 0xB0 && t.pc == 0x0101 && t.cycles == 1) = true := by decide
theorem test_V_ALU_4 : steps (start { State.reset with a := 0x88 } 0x0100 [0x87]) (fun t =>
    t.a == 0x10 && t.f == 0x30 && t.pc == 0x0101 && t.cycles == 1) = true := by decide
theorem test_V_ALU_5 : steps (start { State.reset with a := 0x0F, b := 0x00, f := 0x10 } 0x0100 [0x88]) (fun t =>
    t.a == 0x10 && t.f == 0x20 && t.pc == 0x0101 && t.cycles == 1) = true := by decide
theorem test_V_ALU_6 : steps (start { State.reset with a := 0xFF, b := 0x00, f := 0x10 } 0x0100 [0x88]) (fun t =>
    t.a == 0x00 && t.f == 0xB0 && t.pc == 0x0101 && t.cycles == 1) = true := by decide
theorem test_V_ALU_8 : steps (start { State.reset with a := 0x00, b := 0x01 } 0x0100 [0x90]) (fun t =>
    t.a == 0xFF && t.f == 0x70 && t.pc == 0x0101 && t.cycles == 1) = true := by decide
theorem test_V_ALU_9 : steps (start { State.reset with a := 0x42 } 0x0100 [0x97]) (fun t =>
    t.a == 0x00 && t.f == 0xC0 && t.pc == 0x0101 && t.cycles == 1) = true := by decide
theorem test_V_ALU_11 : steps (start { State.reset with a := 0x10, b := 0x0F, f := 0x10 } 0x0100 [0x98]) (fun t =>
    t.a == 0x00 && t.f == 0xE0 && t.pc == 0x0101 && t.cycles == 1) = true := by decide
theorem test_V_ALU_12 : steps (start { State.reset with a := 0x00, b := 0xFF, f := 0x10 } 0x0100 [0x98]) (fun t =>
    t.f == 0xF0 && t.pc == 0x0101 && t.cycles == 1) = true := by decide
theorem test_V_ALU_13 : steps (start { State.reset with a := 0x55, f := 0x10 } 0x0100 [0x9F]) (fun t =>
    t.a == 0xFF && t.f == 0x70 && t.pc == 0x0101 && t.cycles == 1) = true := by decide
theorem test_V_ALU_14 : steps (start { State.reset with a := 0xF0, b := 0x0F, f := 0x10 } 0x0100 [0xA0]) (fun t =>
    t.a == 0x00 && t.f == 0xA0 && t.pc == 0x0101 && t.cycles == 1) = true := by decide
theorem test_V_ALU_15 : steps (start { State.reset with a := 0x81 } 0x0100 [0xA7]) (fun t =>
    t.f == 0x20 && t.pc == 0x0101 && t.cycles == 1) = true := by decide
theorem test_V_ALU_16 : steps (start { State.reset with a := 0x5A, f := 0x70 } 0x0100 [0xAF]) (fun t =>
    t.a == 0x00 && t.f == 0x80 && t.pc == 0x0101 && t.cycles == 1) = true := by decide
theorem test_V_ALU_17 : steps (start { State.reset with a := 0x00, b := 0x00, f := 0x70 } 0x0100 [0xB0]) (fun t =>
    t.f == 0x80 && t.pc == 0x0101 && t.cycles == 1) = true := by decide
theorem test_V_ALU_18 : steps (start { State.reset with a := 0x80, c := 0x01 } 0x0100 [0xB1]) (fun t =>
    t.a == 0x81 && t.f == 0x00 && t.pc == 0x0101 && t.cycles == 1) = true := by decide
theorem test_V_ALU_19 : steps (start { State.reset with a := 0x3C, b := 0x3C } 0x0100 [0xB8]) (fun t =>
    t.f == 0xC0 && t.pc == 0x0101 && t.cycles == 1) = true := by decide
theorem test_V_ALU_20 : steps (start { State.reset with a := 0x3C, b := 0x40 } 0x0100 [0xB8]) (fun t =>
    t.f == 0x50 && t.pc == 0x0101 && t.cycles == 1) = true := by decide
theorem test_V_ALU_22 :
    steps (start { State.reset with a := 0x01, h := 0x02, l := 0x00, mem := [(0x0200, 0xFF)] }
      0x0100 [0x86]) (fun t =>
    t.a == 0x00 && t.f == 0xB0 && t.pc == 0x0101 && t.cycles == 2) = true := by decide
theorem test_V_ALU_23 :
    steps (start { State.reset with a := 0x10, h := 0x02, l := 0x00, mem := [(0x0200, 0x20)] }
      0x0100 [0xBE]) (fun t =>
    t.f == 0x50 && t.pc == 0x0101 && t.cycles == 2) = true := by decide
theorem test_V_ALU_24 : stops (start { State.reset with a := 0x10, h := 0x20, l := 0x00 } 0x0100 [0x96])
    (.memoryOutOfBounds 0x2000 .read) = true := by decide
theorem test_V_ALU_25 : steps (start { State.reset with a := 0xFF } 0x0100 [0xC6, 0x01]) (fun t =>
    t.a == 0x00 && t.f == 0xB0 && t.pc == 0x0102 && t.cycles == 2) = true := by decide
theorem test_V_ALU_26 : steps (start { State.reset with a := 0x00, f := 0x10 } 0x0100 [0xCE, 0x0F]) (fun t =>
    t.a == 0x10 && t.f == 0x20 && t.pc == 0x0102 && t.cycles == 2) = true := by decide
theorem test_V_ALU_27 : steps (start { State.reset with a := 0x10 } 0x0100 [0xD6, 0x10]) (fun t =>
    t.a == 0x00 && t.f == 0xC0 && t.pc == 0x0102 && t.cycles == 2) = true := by decide
theorem test_V_ALU_28 : steps (start { State.reset with a := 0x00, f := 0x10 } 0x0100 [0xDE, 0x00]) (fun t =>
    t.a == 0xFF && t.f == 0x70 && t.pc == 0x0102 && t.cycles == 2) = true := by decide
theorem test_V_ALU_29 : steps (start { State.reset with a := 0xFF } 0x0100 [0xE6, 0x00]) (fun t =>
    t.a == 0x00 && t.f == 0xA0 && t.pc == 0x0102 && t.cycles == 2) = true := by decide
theorem test_V_ALU_30 : steps (start { State.reset with a := 0x0F } 0x0100 [0xEE, 0xFF]) (fun t =>
    t.a == 0xF0 && t.f == 0x00 && t.pc == 0x0102 && t.cycles == 2) = true := by decide
theorem test_V_ALU_31 : steps (start { State.reset with a := 0xF0 } 0x0100 [0xF6, 0x0F]) (fun t =>
    t.a == 0xFF && t.f == 0x00 && t.pc == 0x0102 && t.cycles == 2) = true := by decide
theorem test_V_ALU_32 : steps (start { State.reset with a := 0x00 } 0x0100 [0xFE, 0x01]) (fun t =>
    t.f == 0x70 && t.pc == 0x0102 && t.cycles == 2) = true := by decide
theorem test_V_ALU_33 : stops (start { State.reset with a := 0x00 } 0x1FFF [0xC6])
    (.memoryOutOfBounds 0x2000 .read) = true := by decide
theorem test_V_INC_1 : steps (start { State.reset with a := 0xFF, f := 0x10 } 0x0100 [0x3C]) (fun t =>
    t.a == 0x00 && t.f == 0xB0 && t.pc == 0x0101 && t.cycles == 1) = true := by decide
theorem test_V_INC_2 : steps (start { State.reset with b := 0x0F } 0x0100 [0x04]) (fun t =>
    t.f == 0x20 && t.b == 0x10 && t.pc == 0x0101 && t.cycles == 1) = true := by decide
theorem test_V_INC_4 : steps (start { State.reset with b := 0x01 } 0x0100 [0x05]) (fun t =>
    t.f == 0xC0 && t.b == 0x00 && t.pc == 0x0101 && t.cycles == 1) = true := by decide
theorem test_V_INC_5 : steps (start { State.reset with a := 0x00, f := 0x10 } 0x0100 [0x3D]) (fun t =>
    t.a == 0xFF && t.f == 0x70 && t.pc == 0x0101 && t.cycles == 1) = true := by decide
theorem test_V_INC_6 : steps (start { State.reset with c := 0x10 } 0x0100 [0x0D]) (fun t =>
    t.f == 0x60 && t.c == 0x0F && t.pc == 0x0101 && t.cycles == 1) = true := by decide
theorem test_V_INC_7 :
    steps (start { State.reset with h := 0x03, l := 0x00, f := 0x10, mem := [(0x0300, 0xFF)] }
      0x0100 [0x34]) (fun t =>
    t.f == 0xB0 && t.pc == 0x0101 && t.mem.read 0x0300 == 0x00 && t.cycles == 3) = true := by decide
theorem test_V_INC_8 :
    steps (start { State.reset with h := 0x02, l := 0x00, mem := [(0x0200, 0x01)] } 0x0100 [0x35]) (fun t =>
    t.f == 0xC0 && t.pc == 0x0101 && t.mem.read 0x0200 == 0x00 && t.cycles == 3) = true := by decide
theorem test_V_INC_9 : steps (start { State.reset with b := 0xFF, c := 0xFF, f := 0xF0 } 0x0100 [0x03]) (fun t =>
    t.f == 0xF0 && t.b == 0x00 && t.c == 0x00 && t.pc == 0x0101 && t.cycles == 2) = true := by decide
theorem test_V_INC_10 : steps (start { State.reset with sp := 0x0000 } 0x0100 [0x3B]) (fun t =>
    t.f == 0x00 && t.sp == 0xFFFF && t.pc == 0x0101 && t.cycles == 2) = true := by decide
theorem test_V_INC_11 : steps (start { State.reset with h := 0x00, l := 0xFF } 0x0100 [0x23]) (fun t =>
    t.f == 0x00 && t.h == 0x01 && t.l == 0x00 && t.pc == 0x0101 && t.cycles == 2) = true := by decide
theorem test_V_INC_12 : steps (start { State.reset with d := 0x01, e := 0x00, f := 0x80 } 0x0100 [0x1B]) (fun t =>
    t.f == 0x80 && t.d == 0x00 && t.e == 0xFF && t.pc == 0x0101 && t.cycles == 2) = true := by decide
theorem test_V_LD_1 : steps (start State.reset 0x0100 [0x01, 0x34, 0x12]) (fun t =>
    t.f == 0x00 && t.b == 0x12 && t.c == 0x34 && t.pc == 0x0103 && t.cycles == 3) = true := by decide
theorem test_V_LD_2 : steps (start State.reset 0x0100 [0x31, 0xFE, 0x1F]) (fun t =>
    t.f == 0x00 && t.sp == 0x1FFE && t.pc == 0x0103 && t.cycles == 3) = true := by decide
theorem test_V_LD_3 : steps (start State.reset 0x0100 [0x21, 0x00, 0x80]) (fun t =>
    t.f == 0x00 && t.h == 0x80 && t.pc == 0x0103 && t.cycles == 3) = true := by decide
theorem test_V_LD_4 : steps (start { State.reset with f := 0xF0 } 0x0100 [0x3E, 0x99]) (fun t =>
    t.a == 0x99 && t.f == 0xF0 && t.pc == 0x0102 && t.cycles == 2) = true := by decide
theorem test_V_LD_5 : steps (start { State.reset with h := 0x03, l := 0x00 } 0x0100 [0x36, 0x5A]) (fun t =>
    t.f == 0x00 && t.pc == 0x0102 && t.mem.read 0x0300 == 0x5A && t.cycles == 3) = true := by decide
theorem test_V_LD_6 : steps (start { State.reset with a := 0x77, f := 0xB0 } 0x0100 [0x47]) (fun t =>
    t.f == 0xB0 && t.b == 0x77 && t.pc == 0x0101 && t.cycles == 1) = true := by decide
theorem test_V_LD_7 : steps (start { State.reset with a := 0x12 } 0x0100 [0x7F]) (fun t =>
    t.f == 0x00 && t.pc == 0x0101 && t.cycles == 1) = true := by decide
theorem test_V_LD_8 :
    steps (start { State.reset with h := 0x04, l := 0x00, mem := [(0x0400, 0xAB)] } 0x0100 [0x7E]) (fun t =>
    t.a == 0xAB && t.f == 0x00 && t.pc == 0x0101 && t.cycles == 2) = true := by decide
theorem test_V_LD_9 :
    steps (start { State.reset with h := 0x04, l := 0x00, mem := [(0x0400, 0x07)] } 0x0100 [0x66]) (fun t =>
    t.f == 0x00 && t.h == 0x07 && t.pc == 0x0101 && t.cycles == 2) = true := by decide
theorem test_V_LD_10 : steps (start { State.reset with a := 0xC3, h := 0x04, l := 0x01 } 0x0100 [0x77]) (fun t =>
    t.f == 0x00 && t.pc == 0x0101 && t.mem.read 0x0401 == 0xC3 && t.cycles == 2) = true := by decide
theorem test_V_LD_11 : steps (start { State.reset with h := 0x05, l := 0x06 } 0x0100 [0x75]) (fun t =>
    t.f == 0x00 && t.pc == 0x0101 && t.mem.read 0x0506 == 0x06 && t.cycles == 2) = true := by decide
theorem test_V_LD_12 : steps (start { State.reset with h := 0x01, l := 0x01 } 0x0100 [0x36, 0x99]) (fun t =>
    t.f == 0x00 && t.pc == 0x0102 && t.mem.read 0x0101 == 0x99 && t.cycles == 3) = true := by decide
theorem test_V_JR_4 : steps (start State.reset 0x0000 [0x18, 0x80]) (fun t =>
    t.f == 0x00 && t.pc == 0xFF82 && t.cycles == 3) = true := by decide
theorem test_V_JR_5 : steps (start State.reset 0x0000 [0x18, 0x7F]) (fun t =>
    t.f == 0x00 && t.pc == 0x0081 && t.cycles == 3) = true := by decide
theorem test_V_JR_6 : steps (start State.reset 0x0006 [0x20, 0xFC]) (fun t =>
    t.f == 0x00 && t.pc == 0x0004 && t.cycles == 3) = true := by decide
theorem test_V_JR_7 : steps (start { State.reset with f := 0x80 } 0x0006 [0x20, 0xFC]) (fun t =>
    t.f == 0x80 && t.pc == 0x0008 && t.cycles == 2) = true := by decide
theorem test_V_JR_8 : steps (start { State.reset with f := 0x80 } 0x0006 [0x28, 0x02]) (fun t =>
    t.f == 0x80 && t.pc == 0x000A && t.cycles == 3) = true := by decide
theorem test_V_JR_9 : steps (start { State.reset with f := 0x10 } 0x0006 [0x30, 0x02]) (fun t =>
    t.f == 0x10 && t.pc == 0x0008 && t.cycles == 2) = true := by decide
theorem test_V_JR_10 : steps (start { State.reset with f := 0x10 } 0x0006 [0x38, 0x02]) (fun t =>
    t.f == 0x10 && t.pc == 0x000A && t.cycles == 3) = true := by decide
theorem test_V_JR_11 : steps (start { State.reset with f := 0xE0 } 0x0006 [0x38, 0x02]) (fun t =>
    t.f == 0xE0 && t.pc == 0x0008 && t.cycles == 2) = true := by decide
theorem test_V_CTL_1 : steps (start { State.reset with f := 0x00 } 0x0100 [0xC2, 0x34, 0x12]) (fun t =>
    t.f == 0x00 && t.pc == 0x1234 && t.cycles == 4) = true := by decide
theorem test_V_CTL_2 : steps (start { State.reset with f := 0x80 } 0x0100 [0xC2, 0x34, 0x12]) (fun t =>
    t.f == 0x80 && t.pc == 0x0103 && t.cycles == 3) = true := by decide
theorem test_V_CTL_3 : steps (start { State.reset with f := 0x10 } 0x0100 [0xDA, 0x00, 0x02]) (fun t =>
    t.f == 0x10 && t.pc == 0x0200 && t.cycles == 4) = true := by decide
theorem test_V_CTL_4 : steps (start { State.reset with f := 0x80, sp := 0x1000 } 0x0100 [0xCC, 0x00, 0x03]) (fun t =>
    t.f == 0x80 && t.sp == 0x0FFE && t.pc == 0x0300 &&
    t.mem.read 0x0FFE == 0x03 && t.mem.read 0x0FFF == 0x01 && t.cycles == 6) = true := by decide
theorem test_V_CTL_5 : steps (start { State.reset with f := 0x00, sp := 0x1000 } 0x0100 [0xCC, 0x00, 0x03]) (fun t =>
    t.f == 0x00 && t.pc == 0x0103 && t.cycles == 3) = true := by decide
theorem test_V_CTL_6 : stops (start { State.reset with f := 0x00, sp := 0x0000 } 0x0100 [0xD4, 0x00, 0x03])
    (.memoryOutOfBounds 0xFFFF .write) = true := by decide
theorem test_V_CTL_7 :
    steps (start { State.reset with f := 0x00, sp := 0x0FFE, mem := [(0x0FFE, 0x03), (0x0FFF, 0x01)] }
      0x0100 [0xC0]) (fun t =>
    t.f == 0x00 && t.sp == 0x1000 && t.pc == 0x0103 && t.cycles == 5) = true := by decide
theorem test_V_CTL_8 :
    steps (start { State.reset with f := 0x00, sp := 0x0FFE, mem := [(0x0FFE, 0x03), (0x0FFF, 0x01)] }
      0x0100 [0xC8]) (fun t =>
    t.f == 0x00 && t.pc == 0x0101 && t.cycles == 2) = true := by decide
theorem test_V_CTL_9 : stops (start { State.reset with f := 0x10, sp := 0x1FFF } 0x0100 [0xD8])
    (.memoryOutOfBounds 0x2000 .read) = true := by decide
theorem test_V_CTL_10 : steps (start { State.reset with sp := 0x1000 } 0x0123 [0xFF]) (fun t =>
    t.f == 0x00 && t.sp == 0x0FFE && t.pc == 0x0038 &&
    t.mem.read 0x0FFE == 0x24 && t.mem.read 0x0FFF == 0x01 && t.cycles == 4) = true := by decide
theorem test_V_CTL_11 : steps (start { State.reset with sp := 0x1000 } 0x0123 [0xCF]) (fun t =>
    t.f == 0x00 && t.sp == 0x0FFE && t.pc == 0x0008 &&
    t.mem.read 0x0FFE == 0x24 && t.mem.read 0x0FFF == 0x01 && t.cycles == 4) = true := by decide
theorem test_V_STK_1 : steps (start { State.reset with b := 0xAB, c := 0xCD, sp := 0x2000 } 0x0100 [0xC5]) (fun t =>
    t.f == 0x00 && t.sp == 0x1FFE && t.pc == 0x0101 &&
    t.mem.read 0x1FFE == 0xCD && t.mem.read 0x1FFF == 0xAB && t.cycles == 4) = true := by decide
theorem test_V_STK_2 :
    steps (start { State.reset with sp := 0x1FFE, mem := [(0x1FFE, 0xCD), (0x1FFF, 0xAB)] }
      0x0100 [0xD1]) (fun t =>
    t.f == 0x00 && t.d == 0xAB && t.e == 0xCD && t.sp == 0x2000 && t.pc == 0x0101 && t.cycles == 3) = true := by decide
theorem test_V_STK_3 : steps (start { State.reset with a := 0x12, f := 0xB0, sp := 0x1000 } 0x0100 [0xF5]) (fun t =>
    t.f == 0xB0 && t.sp == 0x0FFE && t.pc == 0x0101 &&
    t.mem.read 0x0FFE == 0xB0 && t.mem.read 0x0FFF == 0x12 && t.cycles == 4) = true := by decide
theorem test_V_STK_4 :
    steps (start { State.reset with sp := 0x0FFE, mem := [(0x0FFE, 0xFF), (0x0FFF, 0x12)] }
      0x0100 [0xF1]) (fun t =>
    t.a == 0x12 && t.f == 0xF0 && t.sp == 0x1000 && t.pc == 0x0101 && t.cycles == 3) = true := by decide
theorem test_V_STK_5 :
    steps (start { State.reset with sp := 0x0FFE, mem := [(0x0FFE, 0xFF), (0x0FFF, 0x12)], cfg := { Config.reference with popAfMasksF := false } }
      0x0100 [0xF1]) (fun t =>
    t.a == 0x12 && t.f == 0xFF && t.sp == 0x1000 && t.pc == 0x0101 && t.cycles == 3) = true := by decide
theorem test_V_STK_6 : stops (start { State.reset with h := 0x11, l := 0x22, sp := 0x0000 } 0x0100 [0xE5])
    (.memoryOutOfBounds 0xFFFF .write) = true := by decide
theorem test_V_STK_7 : stops (start { State.reset with h := 0x11, l := 0x22, sp := 0x0001 } 0x0100 [0xE5])
    (.memoryOutOfBounds 0xFFFF .write) = true := by decide
theorem test_V_STK_8 :
    steps (start { State.reset with sp := 0x0000, mem := [(0x0000, 0x78), (0x0001, 0x56)] }
      0x0100 [0xC1]) (fun t =>
    t.f == 0x00 && t.b == 0x56 && t.c == 0x78 && t.sp == 0x0002 && t.pc == 0x0101 && t.cycles == 3) = true := by decide
theorem test_V_STK_9 : stops (start { State.reset with sp := 0x1FFF } 0x0100 [0xE1])
    (.memoryOutOfBounds 0x2000 .read) = true := by decide
theorem test_V_STK_10 :
    steps (start { State.reset with d := 0x01, e := 0x02, sp := 0x0000, cfg := { Config.reference with memSize := 65536 } }
      0x0100 [0xD5]) (fun t =>
    t.f == 0x00 && t.sp == 0xFFFE && t.pc == 0x0101 &&
    t.mem.read 0xFFFE == 0x02 && t.mem.read 0xFFFF == 0x01 && t.cycles == 4) = true := by decide
theorem test_V_MISC_1 : steps (start { State.reset with a := 0x11, f := 0xF0 } 0x0100 [0x00]) (fun t =>
    t.f == 0xF0 && t.pc == 0x0101 && t.cycles == 1) = true := by decide
theorem test_V_MISC_2 : steps (start { State.reset with h := 0x01, l := 0x00 } 0x0100 [0x76]) (fun t =>
    t.f == 0x00 && t.pc == 0x0101 && t.halted && t.cycles == 1) = true := by decide
theorem test_V_MISC_3 : stops (start State.reset 0x0100 [0xCB, 0x37])
    (.unimplementedOpcode 0xCB 0x0100) = true := by decide
theorem test_V_MISC_4 : stops (start { State.reset with sp := 0x1000 } 0x0100 [0xC9])
    (.unimplementedOpcode 0xC9 0x0100) = true := by decide
theorem test_V_MISC_5 : stops (start State.reset 0x0100 [0xC3, 0x00, 0x00])
    (.unimplementedOpcode 0xC3 0x0100) = true := by decide
theorem test_V_MISC_6 : stops (start State.reset 0x0100 [0x10, 0x00])
    (.unimplementedOpcode 0x10 0x0100) = true := by decide
theorem test_V_MISC_7 : stops (start State.reset 0x0100 [0xD3]) (.unimplementedOpcode 0xD3 0x0100) = true := by decide
theorem test_V_MISC_8 : stops (start { State.reset with h := 0x20, l := 0x00 } 0x0100 [0x7E])
    (.memoryOutOfBounds 0x2000 .read) = true := by decide
theorem test_V_MISC_9 : stops (start { State.reset with h := 0xFF, l := 0xFF } 0x0100 [0x70])
    (.memoryOutOfBounds 0xFFFF .write) = true := by decide
theorem test_V_MISC_10 : stops (start State.reset 0x1FFE [0x31]) (.memoryOutOfBounds 0x2000 .read) = true := by decide
theorem test_V_MISC_11 : stops (start { State.reset with h := 0x20, l := 0x00 } 0x0100 [0x34])
    (.memoryOutOfBounds 0x2000 .read) = true := by decide

/-! ## A word of the opcode table, placed where step fetches -/

theorem test_tableWord_ldPair : decodeTableWord 24 0x123401 = some (.ldBC_D16 0x1234) := by decide
theorem test_tableWord_short : decodeTableWord 8 0xCE = some (.adcA_D8 0x00) := by decide
theorem test_withFetchWord_runs : steps (State.reset.withFetchWord 24 0x123401) (fun t =>
    t.b == 0x12 && t.c == 0x34 && t.pc == 0x0003 && t.cycles == 3) = true := by decide

/-! ## The run, from V-RUN-1 to V-RUN-4 -/

theorem test_V_RUN_1 : ((State.resetWith Config.reference [0xC5]).map
    fun s => stops s (.memoryOutOfBounds 0xFFFF .write)) = some true := by decide
theorem test_V_RUN_2 : ((State.resetWith Config.reference [0x18, 0x05]).map fun s =>
    s.loopStep.pc == 0x0007 && s.loopStep.cycles == 3 && s.loopStep.stop == some .boundExit) = some true := by decide
theorem test_V_RUN_3 : ((State.resetWith Config.reference [0x76, 0x3C]).map fun s =>
    s.loopStep.pc == 0x0001 && s.loopStep.a == 0x00 && s.loopStep.stop == some .halted) = some true := by decide
theorem test_V_RUN_4 : ((State.resetWith Config.reference [0x00]).map fun s =>
    s.loopStep.pc == 0x0001 && s.loopStep.stop == some .boundExit) = some true := by decide

/-! ## States and operands that meet the statements' hypotheses -/

/-- A running state with these bytes at 0. -/
def atZero (bytes : List Byte) : State := start State.reset 0x0000 bytes

/-- HL at the last byte of Memory. -/
def hlLast : State := { State.reset with h := 0x1F, l := 0xFF }

/-- HL at the first address outside Memory. -/
def hlOut : State := { State.reset with h := 0x20, l := 0x00 }

/-- SP at a given address. -/
def spAt (w : Word) : State := { State.reset with sp := w }

theorem witness_ResetWithLoadsTheImage : ∃ s, State.resetWith Config.reference [0x76] = some s := ⟨_, rfl⟩
theorem witness_ResetWithLoadsTheImage_refused : State.resetWith Config.reference [] = none ∧
    State.resetWith { Config.reference with memSize := 1 } [0x00, 0x76] = none := by decide
theorem witness_EndedRunIsFinal : State.stop { State.reset with halted := true } = some .halted ∧
    State.reset.stop = some .boundExit ∧
    State.fault { State.reset with fault := some .invalidSelector } = some .invalidSelector := by decide
theorem witness_StepRunsDecodedInstruction : (atZero [0x01, 0x34, 0x12]).running = true ∧
    decode ((atZero [0x01, 0x34, 0x12]).bytesAt 0x0000 3) = .ok (.ldBC_D16 0x1234) [] ∧
    (Instr.ldBC_D16 0x1234).wellFormed = true ∧
    (∀ n < 3, (atZero [0x01, 0x34, 0x12]).inBounds (0x0000 + BitVec.ofNat 16 n) = true) := by decide
theorem witness_FetchFaultsInAddressOrder_opcode : (start State.reset 0x2000 []).running = true ∧
    (start State.reset 0x2000 []).inBounds 0x2000 = false := by decide
theorem witness_FetchFaultsInAddressOrder_first : (start State.reset 0x1FFF [0x06]).running = true ∧
    (start State.reset 0x1FFF [0x06]).inBounds 0x1FFF = true ∧
    1 ≤ immBytesOf ((start State.reset 0x1FFF [0x06]).peek 0x1FFF) ∧
    (start State.reset 0x1FFF [0x06]).inBounds (0x1FFF + 1) = false := by decide
theorem witness_FetchFaultsInAddressOrder_second : (start State.reset 0x1FFE [0x01]).running = true ∧
    (start State.reset 0x1FFE [0x01]).inBounds 0x1FFE = true ∧
    immBytesOf ((start State.reset 0x1FFE [0x01]).peek 0x1FFE) = 2 ∧
    (start State.reset 0x1FFE [0x01]).inBounds (0x1FFE + 1) = true ∧
    (start State.reset 0x1FFE [0x01]).inBounds (0x1FFE + 2) = false := by decide
theorem witness_UnimplementedByteStopsTheStep : (start State.reset 0x1FFF [0xFD]).running = true ∧
    (start State.reset 0x1FFF [0xFD]).inBounds 0x1FFF = true ∧
    ((start State.reset 0x1FFF [0xFD]).peek 0x1FFF).toNat ∈ unimplementedBytes := by decide
theorem witness_UnimplementedInstructionsStop : 0x02 ∈ unimplementedBytes ∧ 0xFD ∈ unimplementedBytes := by decide
theorem witness_LoopRecordsTheFaultForGood : (atZero [0x02]).running = true ∧
    step (atZero [0x02]) = .fault (.unimplementedOpcode 0x02 0x0000) := ⟨by decide, rfl⟩
theorem witness_OnlyHaltTouchesTheHaltFlag : Instr.nop ≠ .halt ∧ (∃ t, exec .nop State.reset = .next t) ∧
    State.halted { State.reset with halted := true } = true ∧ ∃ s, State.resetWith Config.reference [0x76] = some s :=
  ⟨by decide, ⟨_, rfl⟩, rfl, ⟨_, rfl⟩⟩
theorem witness_DecodeOfEncodeIsTheInstruction : (Instr.jr (-128)).wellFormed = true ∧
    (Instr.jr 127).wellFormed = true := by decide
theorem witness_EncodeOfDecodeIsTheBytes : decode [0x18, 0x80, 0x00] = .ok (.jr (-128)) [0x00] := by decide
theorem witness_LoadPairImmediate : Pair16.hl ≠ .sp := by decide
theorem witness_IncDecPairKeepsFlags : Pair16.bc ≠ .de := by decide
theorem witness_IncDecRegister : Reg8.a ≠ .b := by decide
theorem witness_LoadRegisterImmediate : Reg8.h ≠ .l := by decide
theorem witness_LoadRegisterRegister : Reg8.a ≠ .e := by decide
theorem witness_LoadRegisterFromMemory : hlLast.inBounds hlLast.hl = true ∧ hlOut.inBounds hlOut.hl = false ∧
    Reg8.h ≠ .l := by decide
theorem witness_StoreRegister : hlLast.mem.wf ∧ hlLast.inBounds hlLast.hl = true ∧ hlOut.mem.wf ∧
    hlOut.inBounds hlOut.hl = false := by decide
theorem witness_IncDecMemoryByte : hlLast.mem.wf ∧ hlLast.inBounds hlLast.hl = true ∧ hlOut.mem.wf ∧
    hlOut.inBounds hlOut.hl = false := by decide
theorem witness_StoreImmediate : hlLast.mem.wf ∧ hlLast.inBounds hlLast.hl = true ∧ hlOut.mem.wf ∧
    hlOut.inBounds hlOut.hl = false := by decide
theorem witness_AluWithMemory : hlLast.inBounds hlLast.hl = true ∧ hlOut.inBounds hlOut.hl = false := by decide
theorem witness_RelativeJumps : condHolds 0x80 .z = true ∧ condHolds 0x00 .z = false ∧ condHolds 0x10 .c = true ∧
    condHolds 0x10 .nc = false := by decide
theorem witness_RelativeJumpFromBytes_forward : (atZero [0x18, 0x7F]).running = true ∧
    (atZero [0x18, 0x7F]).inBounds 0x0000 = true ∧ (atZero [0x18, 0x7F]).inBounds (0x0000 + 1) = true ∧
    (atZero [0x18, 0x7F]).peek 0x0000 = 0x18 ∧ ((atZero [0x18, 0x7F]).peek (0x0000 + 1)).toNat < 128 := by decide
theorem witness_RelativeJumpFromBytes_backward : (atZero [0x18, 0x80]).running = true ∧
    (atZero [0x18, 0x80]).inBounds 0x0000 = true ∧ (atZero [0x18, 0x80]).inBounds (0x0000 + 1) = true ∧
    (atZero [0x18, 0x80]).peek 0x0000 = 0x18 ∧ 128 ≤ ((atZero [0x18, 0x80]).peek (0x0000 + 1)).toNat := by decide
theorem witness_HaltStopsTheMachine : State.reset.fault = none := by decide
theorem witness_ConditionalReturn : condHolds (spAt 0x1FFE).f .nz = true ∧
    ((spAt 0x1FFE).inBounds 0x1FFE = true ∧ (spAt 0x1FFE).inBounds (0x1FFE + 1) = true) ∧
    (spAt 0x2000).inBounds 0x2000 = false ∧
    ((spAt 0x1FFF).inBounds 0x1FFF = true ∧ (spAt 0x1FFF).inBounds (0x1FFF + 1) = false) ∧
    condHolds (spAt 0x1FFE).f .z = false := by decide
theorem witness_ConditionalCall : (spAt 0x2000).mem.wf ∧ condHolds (spAt 0x2000).f .nc = true ∧
    ((spAt 0x2000).inBounds (0x2000 - 1) = true ∧ (spAt 0x2000).inBounds (0x2000 - 2) = true) ∧
    (spAt 0x0000).inBounds (0x0000 - 1) = false ∧
    ((spAt 0x0001).inBounds (0x0001 - 1) = true ∧ (spAt 0x0001).inBounds (0x0001 - 2) = false) ∧
    condHolds (spAt 0x2000).f .c = false := by decide
theorem witness_RestartCallsItsVector : 0 < 8 ∧ 7 < 8 ∧ (spAt 0x2000).mem.wf ∧
    ((spAt 0x2000).inBounds (0x2000 - 1) = true ∧ (spAt 0x2000).inBounds (0x2000 - 2) = true) ∧
    (spAt 0x0000).inBounds (0x0000 - 1) = false ∧
    ((spAt 0x0001).inBounds (0x0001 - 1) = true ∧ (spAt 0x0001).inBounds (0x0001 - 2) = false) := by decide
theorem witness_PushStoresThePair : (spAt 0x0002).mem.wf ∧
    ((spAt 0x0002).inBounds (0x0002 - 1) = true ∧ (spAt 0x0002).inBounds (0x0002 - 2) = true) ∧
    (spAt 0x2001).inBounds (0x2001 - 1) = false ∧
    ((spAt 0x0001).inBounds (0x0001 - 1) = true ∧ (spAt 0x0001).inBounds (0x0001 - 2) = false) := by decide
theorem witness_PopLoadsThePair : StackPair.hl ≠ .af ∧
    ((spAt 0x0000).inBounds 0x0000 = true ∧ (spAt 0x0000).inBounds (0x0000 + 1) = true) ∧
    (spAt 0x2000).inBounds 0x2000 = false ∧
    ((spAt 0x1FFF).inBounds 0x1FFF = true ∧ (spAt 0x1FFF).inBounds (0x1FFF + 1) = false) := by decide
theorem witness_PopAFLoadsFlags_masked : (spAt 0x1FFE).inBounds 0x1FFE = true ∧
    (spAt 0x1FFE).inBounds (0x1FFE + 1) = true ∧ (spAt 0x1FFE).cfg.popAfMasksF = true := by decide
theorem witness_PopAFLoadsFlags_whole :
    State.inBounds { spAt 0x1FFE with cfg := { Config.reference with popAfMasksF := false } } 0x1FFE = true ∧
    State.inBounds { spAt 0x1FFE with cfg := { Config.reference with popAfMasksF := false } } (0x1FFE + 1) = true ∧
    ({ Config.reference with popAfMasksF := false } : Config).popAfMasksF = false := by decide
theorem witness_PushPopRoundTrip : (spAt 0x2000).Inv ∧ (spAt 0x2000).inBounds (0x2000 - 1) = true ∧
    (spAt 0x2000).inBounds (0x2000 - 2) = true := by decide
theorem witness_StackPrimitives : (spAt 0x0002).mem.wf ∧
    ((spAt 0x0002).inBounds (0x0002 - 1) = true ∧ (spAt 0x0002).inBounds (0x0002 - 2) = true) ∧
    ((spAt 0x0002).inBounds 0x0002 = true ∧ (spAt 0x0002).inBounds (0x0002 + 1) = true) := by decide
theorem witness_StepKeepsTheInvariant : (atZero [0x34]).Inv ∧ ∃ t, step (atZero [0x34]) = .next t :=
  ⟨by decide, ⟨_, rfl⟩⟩
theorem witness_ResetWithMeetsTheInvariant : ∃ s, State.resetWith Config.reference [0x76] = some s := ⟨_, rfl⟩
theorem witness_OnlyFlagWritersChangeF : (∃ t, exec .incBC State.reset = .next t) ∧
    writesFlagsByte Instr.incBC.opcode.toNat = false ∧ (∃ t, exec .incB State.reset = .next t) ∧
    writesFlagsByte Instr.incB.opcode.toNat = true ∧ Instr.incB ≠ .popAF :=
  ⟨⟨_, rfl⟩, by decide, ⟨_, rfl⟩, by decide, by decide⟩
theorem witness_OnlyStoringFormsChangeMemory : (∃ t, exec .ldA_AtHL State.reset = .next t) ∧
    storesByte Instr.ldA_AtHL.opcode.toNat = false := ⟨⟨_, rfl⟩, by decide⟩
theorem witness_OnlyStackFormsMoveSP : (∃ t, exec .decHL State.reset = .next t) ∧
    movesStackByte Instr.decHL.opcode.toNat = false := ⟨⟨_, rfl⟩, by decide⟩
theorem witness_ParametersAndRecordStay : ∃ t, exec .ldAtHL_A State.reset = .next t := ⟨_, rfl⟩
theorem witness_UntakenInstructionsAdvance : (∃ t, exec .nop State.reset = .next t) ∧
    transfersByte Instr.nop.opcode.toNat = false ∧ (∃ t, exec (.callZ 0x1234) State.reset = .next t) ∧
    conditionalByte (Instr.callZ 0x1234).opcode.toNat = true ∧
    condHolds State.reset.f (condOf ((Instr.callZ 0x1234).opcode.toNat / 8 % 4)) = false :=
  ⟨⟨_, rfl⟩, by decide, ⟨_, rfl⟩, by decide, by decide⟩
theorem witness_CyclesFollowTheOpcodeTable : State.reset.cfg.cycleTable = CycleTable.reference ∧
    ∃ t, exec (.jpNZ 0x1234) State.reset = .next t := ⟨rfl, ⟨_, rfl⟩⟩
theorem witness_TimingDrivesOnlyTheCounter : ∃ t, step (atZero [0x04]) = .next t := ⟨_, rfl⟩
theorem witness_EveryFaultHasItsCause : (∃ r, exec .unimplementedD3 State.reset = .fault r) ∧
    ∃ r, exec .incAtHL hlOut = .fault r := ⟨⟨_, rfl⟩, ⟨_, rfl⟩⟩
theorem witness_InvalidSelectorIsNeverRaised : (atZero [0x76]).fault = none := by decide
theorem witness_StoreIntoNextInstructionIsExecuted :
    let s := { atZero [0x77] with a := 0x04, h := 0x00, l := 0x01 }
    s.mem.wf ∧ s.hl = s.pc + 1 ∧ (∃ t, exec (Instr.ldAtHLReg .a) s = .next t ∧ t.running = true) ∧
      decode [s.get8 .a] = .ok .incB [] := ⟨by decide, by decide, ⟨_, rfl, by decide⟩, by decide⟩
theorem witness_NotTakenIsCheaperAndHarmless : conditionalByte (Instr.jrZ 5).opcode.toNat = true ∧
    condHolds State.reset.f (condOf ((Instr.jrZ 5).opcode.toNat / 8 % 4)) = false ∧
    (∃ t, exec (.jrZ 5) State.reset = .next t) ∧ State.reset.cfg.cycleTable = CycleTable.reference ∧
    condHolds (State.f { State.reset with f := 0x80 }) (condOf ((Instr.jrZ 5).opcode.toNat / 8 % 4)) = true ∧
    ∃ t, exec (.jrZ 5) { State.reset with f := 0x80 } = .next t :=
  ⟨by decide, by decide, ⟨_, rfl⟩, rfl, by decide, ⟨_, rfl⟩⟩
theorem witness_EngineBitwise : 7 < 8 := by decide

end Sys2Proof.Tests
end

section
/-! The halt flag (10_state.md R31): HALT sets it, no other form touches it, and while it is true the loop runs
nothing. -/

namespace Sys2Proof.Machine

/-- HALT is the only instruction of its form. -/
theorem form_ne_halt {i : Instr} (h : i ≠ .halt) : i.form ≠ .halt := by
  cases i with
  | halt => exact absurd rfl h
  | _ => exact nofun

/-- Every form but HALT leaves the halt flag as it was, whichever branch it takes. -/
theorem Form.result_halted {f : Form} (h : f ≠ .halt) (s : State) : (f.result s).halted = s.halted := by
  cases f with
  | halt => exact absurd rfl h
  | jrCond | retCond | jpCond | callCond => rw [Form.result]; split <;> rfl
  | _ => simp [Form.result]

theorem exec_halt_sets_halted (s : State) : ∃ t, exec .halt s = .next t ∧ t.halted = true :=
  ⟨Form.result s .halt, (exec_eq_run .halt s).trans (Form.run_next.2 ⟨rfl, rfl⟩), rfl⟩

/-- By the instruction's form: a next state is the form's result. -/
theorem exec_keeps_halted {i : Instr} {s t : State} (hi : i ≠ .halt) (h : exec i s = .next t) :
    t.halted = s.halted := by
  rw [exec_eq_run] at h
  obtain ⟨-, rfl⟩ := Form.run_next.1 h
  exact Form.result_halted (form_ne_halt hi) s

theorem State.running_of_halted {s : State} (h : s.halted = true) : s.running = false := by
  simp [State.running, h]

theorem State.loopStep_of_not_running {s : State} (h : s.running = false) : s.loopStep = s := by
  simp [State.loopStep, h]

theorem State.resetWith_halted {cfg : Config} {image : List Byte} {s : State}
    (h : State.resetWith cfg image = some s) : s.halted = false := by
  unfold State.resetWith at h
  split at h
  · cases h; rfl
  · cases h

/-- Settles O10, from each form's closed result and the loop's test of `running`. -/
theorem onlyHaltTouchesTheHaltFlag : Obligations.OnlyHaltTouchesTheHaltFlag := by
  have halted_final (s : State) (h : s.halted = true) : s.running = false ∧ s.loopStep = s :=
    have hr := State.running_of_halted h
    ⟨hr, State.loopStep_of_not_running hr⟩
  exact ⟨rfl, exec_halt_sets_halted, fun _ _ _ => exec_keeps_halted, halted_final,
    fun _ _ _ => State.resetWith_halted⟩

end Sys2Proof.Machine
end

section
/-! The stack primitives (20_memory.md R47): the bytes `Push16` writes, and the word `Pop16` finds in their place. -/

namespace Sys2Proof.Machine

/-- The two addresses of a push are different, at SP = 0 and SP = 1 too. -/
theorem Word.sub_one_toNat_ne_sub_two_toNat (w : Word) : (w - 1).toNat ≠ (w - 2).toNat := by bv_omega

theorem Word.sub_two_add_one (w : Word) : w - 2 + 1 = w - 1 := by bv_omega

/-- The two writes fall on different addresses, so the order in which they are read back does not matter. -/
theorem State.pushedWord_pushed {s : State} (h : s.mem.wf) (v : Word) : pushedWord v s (s.pushed v) := by
  intro x
  have hne := Word.sub_one_toNat_ne_sub_two_toNat s.sp
  rw [State.pushed, Memory.read_write (Memory.write_wf h _ _), Memory.read_write h]
  by_cases hx : x = (s.sp - 1).toNat
  · rw [if_pos hx, if_pos hx, if_neg (hx ▸ hne)]
  · rw [if_neg hx, if_neg hx]

/-- The word at SP after a push, low byte at SP − 2 and high byte at SP − 1, is the word pushed. -/
theorem stackTop_of_pushedWord {s t : State} {v : Word} (h : pushedWord v s t) (hsp : t.sp = s.sp - 2) :
    stackTop t = v := by
  have hhi : t.peek (t.sp + 1) = hiByte v := by
    rw [hsp, Word.sub_two_add_one, State.peek, h, if_pos rfl]
  have hlo : t.peek t.sp = loByte v := by
    rw [hsp, State.peek, h, if_neg (Word.sub_one_toNat_ne_sub_two_toNat s.sp).symm, if_pos rfl]
  rw [stackTop, hhi, hlo, hiLo_hiByte_loByte]

/-- A pop undoes a push but for the bytes left in memory: it hands on the pushed word and SP as it was. -/
theorem State.pop16Then_pushed {s : State} {v : Word} (h : s.mem.wf) (h1 : s.inBounds (s.sp - 1) = true)
    (h2 : s.inBounds (s.sp - 2) = true) (k : Word → State → Result) :
    (s.pushed v).pop16Then k = k v { s.pushed v with sp := s.sp } := by
  have htop : stackTop (s.pushed v) = v := stackTop_of_pushedWord (State.pushedWord_pushed h v) rfl
  have hhigh : (s.pushed v).inBounds ((s.pushed v).sp + 1) = true := by
    rw [State.pushed_sp, Word.sub_two_add_one]
    exact h1
  rw [State.pop16Then_ok h2 hhigh, ← stackTop, htop, State.pushed_sp, BitVec.sub_add_cancel]

/-- Settles O46: `Push16` leaves the pushed state, whose bytes are the pushed word's, and `Pop16` reads them back. -/
theorem stackPrimitives : Obligations.StackPrimitives := fun s v hwf =>
  ⟨fun h1 h2 => ⟨s.pushed v, State.push16Then_ok h1 h2, State.pushedWord_pushed hwf v, rfl,
    State.pop16Then_pushed hwf h1 h2⟩, State.pop16Then_ok⟩

end Sys2Proof.Machine
end

section
/-! The ALU and flag engine (40_alu_flag_engine.md): each function's result on natural numbers, and its flag byte as
the four flags it is built from. -/

namespace Sys2Proof.Machine

/-- A built flag byte as a number (10_state.md R25). -/
theorem flagsByte_toNat (z n h c : Bool) :
    (flagsByte z n h c).toNat = z.toNat * 0x80 + n.toNat * 0x40 + h.toNat * 0x20 + c.toNat * 0x10 := by
  revert z n h c; decide

/-- A byte built from four flags reads as them, and its low nibble is 0 (R25, R26). -/
theorem flags_of_eq_flagsByte {f : Byte} {z n h c : Bool} (hf : f = flagsByte z n h c) :
    flagZ f = z ∧ flagN f = n ∧ flagH f = h ∧ flagC f = c ∧ f &&& 0x0F = 0 := by
  rw [hf]
  exact ⟨flagZ_flagsByte .., flagN_flagsByte .., flagH_flagsByte .., flagC_flagsByte .., flagsByte_low ..⟩

/-! ## Addition and subtraction -/

section AddSub

variable (a b : Byte) (cin : Bool)

theorem aluAdd_res_toNat : (aluAdd a b cin).res.toNat = (a.toNat + b.toNat + cin.toNat) % 256 :=
  BitVec.toNat_ofNat ..

theorem aluAdd_flags : (aluAdd a b cin).flags = flagsByte ((aluAdd a b cin).res == 0) false
    (decide (15 < a.toNat % 16 + b.toNat % 16 + cin.toNat)) (decide (255 < a.toNat + b.toNat + cin.toNat)) := by
  rw [← lowNibble_eq a, ← lowNibble_eq b]
  rfl

/-- Adding 0xFF and a carry adds 256: the result is the operand, which the test `new < old` would take for no carry
(R101, R113). -/
theorem aluAdd_ff_carry_res : (aluAdd a 0xFF true).res = a := by
  have hres : (aluAdd a 0xFF true).res.toNat = (a.toNat + 256) % 256 := aluAdd_res_toNat a 0xFF true
  have ha := a.isLt
  apply BitVec.eq_of_toNat_eq
  omega

theorem flagC_aluAdd_ff_carry : flagC (aluAdd a 0xFF true).flags = true := by
  rw [aluAdd_flags, flagC_flagsByte, decide_eq_true_eq]
  calc 255 < a.toNat + 256 := by omega
    _ = a.toNat + (0xFF : Byte).toNat + true.toNat := rfl

/-- The exact difference is at least −256, so adding 512 keeps it a natural number and its value modulo 256 (R102). -/
theorem aluSub_res_toNat : (aluSub a b cin).res.toNat = (a.toNat + 512 - b.toNat - cin.toNat) % 256 := by
  have hres : (aluSub a b cin).res.toNat = (((a.toNat : Int) - b.toNat - cin.toNat) % 256).toNat :=
    BitVec.toNat_ofInt ..
  have hb := b.isLt
  have hc := cin.toNat_le
  omega

theorem aluSub_flags : (aluSub a b cin).flags = flagsByte ((aluSub a b cin).res == 0) true
    (decide (a.toNat % 16 < b.toNat % 16 + cin.toNat)) (decide (a.toNat < b.toNat + cin.toNat)) := by
  rw [← lowNibble_eq a, ← lowNibble_eq b]
  rfl

/-- Subtracting 0xFF and a borrow takes 256 from a byte: always a borrow (R102). -/
theorem flagC_aluSub_ff_borrow : flagC (aluSub a 0xFF true).flags = true := by
  rw [aluSub_flags, flagC_flagsByte, decide_eq_true_eq]
  exact a.isLt

/-- With no borrow in, the difference is 0 only when the operands are equal. -/
theorem aluSub_res_eq_zero_iff : (aluSub a b false).res = 0 ↔ a = b := by
  have hres : (aluSub a b false).res.toNat = (a.toNat + 512 - b.toNat) % 256 := aluSub_res_toNat a b false
  have ha := a.isLt
  have hb := b.isLt
  rw [← BitVec.toNat_inj, ← BitVec.toNat_inj, hres, BitVec.ofNat_eq_ofNat, BitVec.toNat_zero]
  omega

end AddSub

/-- Settles O17: the result as a number, and each flag read off the flags the byte is built from. -/
theorem engineAdd : Obligations.EngineAdd := fun a b cin =>
  have ⟨hz, hn, hh, hc, hlow⟩ := flags_of_eq_flagsByte (aluAdd_flags a b cin)
  ⟨aluAdd_res_toNat a b cin, hz, hn, hh, hc, hlow, aluAdd_ff_carry_res a, flagC_aluAdd_ff_carry a⟩

/-- Settles O18, as O17 with the exact difference for the sum. -/
theorem engineSub : Obligations.EngineSub := fun a b cin =>
  have ⟨hz, hn, hh, hc, hlow⟩ := flags_of_eq_flagsByte (aluSub_flags a b cin)
  ⟨aluSub_res_toNat a b cin, hz, hn, hh, hc, hlow, flagC_aluSub_ff_borrow a⟩

/-! ## Comparison -/

/-- Z after a comparison is equality. -/
theorem flagZ_aluCompare_iff (a b : Byte) : flagZ (aluCompare a b).flags = true ↔ a = b := by
  rw [aluCompare, aluSub_flags, flagZ_flagsByte, beq_iff_eq, aluSub_res_eq_zero_iff]

/-- C after a comparison is the unsigned order. -/
theorem flagC_aluCompare_iff (a b : Byte) : flagC (aluCompare a b).flags = true ↔ a.toNat < b.toNat := by
  rw [aluCompare, aluSub_flags, flagC_flagsByte, decide_eq_true_eq, Bool.toNat_false, Nat.add_zero]

/-- Settles O20: what `compare` returns and CP writes is by definition, what its Z and C say is not. -/
theorem engineCompare : Obligations.EngineCompare := fun a b =>
  ⟨rfl, rfl, flagZ_aluCompare_iff a b, flagC_aluCompare_iff a b, fun _ => rfl⟩

/-! ## The bitwise operations -/

/-- The flag byte of a bitwise operation with result `r`, H as the operation sets it (R103, R104, R105). -/
theorem bitwiseFlags_toNat (r : Byte) (h : Bool) :
    (flagsByte (r == 0) false h false).toNat = if r = 0 then 0x80 + h.toNat * 0x20 else h.toNat * 0x20 := by
  rw [flagsByte_toNat]
  by_cases hr : r = 0
  · rw [if_pos hr, beq_iff_eq.2 hr]
    simp
  · rw [if_neg hr, beq_eq_false_iff_ne.2 hr]
    simp

/-- Settles O19: the bits are those of the word operations, the flag bytes one lemma's with H set for AND alone. -/
theorem engineBitwise : Obligations.EngineBitwise := fun a b =>
  ⟨fun _ _ => ⟨BitVec.getLsbD_and, BitVec.getLsbD_or, BitVec.getLsbD_xor⟩,
    bitwiseFlags_toNat (a &&& b) true, bitwiseFlags_toNat (a ||| b) false, bitwiseFlags_toNat (a ^^^ b) false⟩

/-! ## Conditions -/

/-- Masking with bit 7 leaves it where Z is set and 0 otherwise (R25). -/
theorem and_0x80_eq (f : Byte) : f &&& 0x80 = if flagZ f then 0x80 else 0 := BitVec.and_twoPow f 7

/-- Masking with bit 4 leaves it where C is set and 0 otherwise (R25). -/
theorem and_0x10_eq (f : Byte) : f &&& 0x10 = if flagC f then 0x10 else 0 := BitVec.and_twoPow f 4

/-- Settles O21: the masked bytes are decided by Z and C, and so are the conditions. -/
theorem conditionsReadZAndC : Obligations.ConditionsReadZAndC := by
  refine ⟨rfl, rfl, rfl, rfl, fun f => ?_⟩
  rw [and_0x80_eq, and_0x10_eq]
  simp only [condHolds]
  cases flagZ f <;> cases flagC f <;> decide

end Sys2Proof.Machine
end

section
/-! Encoding and decoding (30_encoding.md R60, R61, R76): the encoder's bytes decode to the instruction, and a byte's
template lays out exactly the bytes it was read from, so that neither direction loses a bit. -/

namespace Sys2Proof

open Machine (unimplementedBytes)

/-! ## Decoding what was encoded -/

/-- An offset in range is its own two's-complement byte read as signed (R68). -/
theorem toInt_ofInt_of_offsetInRange {e : Int} (h : offsetInRange e = true) : (BitVec.ofInt 8 e).toInt = e := by
  obtain ⟨hlo, hhi⟩ := of_decide_eq_true h
  exact BitVec.toInt_ofInt_eq_self (by decide) hlo (by omega)

/-- Decoding undoes encoding: a word operand is joined from its two bytes, an offset read back as signed, and every
other operand is its own byte. Where there is an operand, the opcode is first made a literal: the decoder's tests of
its fields compute only then. -/
theorem decode_encode_append {i : Instr} (h : i.wellFormed = true) (rest : List Byte) :
    decode (encode i ++ rest) = .ok i rest := by
  rw [encode, List.cons_append]
  cases i with
  | jr e =>
    rw [Instr.opcode]
    show Decoded.ok (Instr.jr (BitVec.ofInt 8 e).toInt) rest = _
    rw [toInt_ofInt_of_offsetInRange h]
  | jrNZ e | jrZ e | jrNC e | jrC e =>
    rw [Instr.opcode]
    show Decoded.ok _ rest = _
    beta_reduce
    rw [toInt_ofInt_of_offsetInRange h]
    rfl
  | ldBC_D16 v | ldDE_D16 v | ldHL_D16 v | ldSP_D16 v | jpNZ v | jpZ v | jpNC v | jpC v | callNZ v | callZ v | callNC v
  | callC v =>
    rw [Instr.opcode]
    show Decoded.ok _ rest = _
    rw [hiLo_hiByte_loByte]
    rfl
  | ldB_D8 | ldC_D8 | ldD_D8 | ldE_D8 | ldH_D8 | ldL_D8 | ldAtHL_D8 | ldA_D8 | addA_D8 | adcA_D8 | subA_D8 | sbcA_D8
  | andA_D8 | xorA_D8 | orA_D8 | cpA_D8 =>
    rw [Instr.opcode]
    rfl
  | _ => rfl

/-- Settles O11. -/
theorem decodeOfEncodeIsTheInstruction : Obligations.DecodeOfEncodeIsTheInstruction :=
  fun _ rest h => decode_encode_append h rest

/-! ## Encoding what was decoded -/

/-- The opcode byte of a template's instruction whose immediates are zero. -/
def Template.zeroOpcode : Template → Byte
  | .plain i => i.opcode
  | .imm8 k => (k 0).opcode
  | .imm16 k => (k 0).opcode

/-- What the encoder makes of a template's instructions: the immediates are the bytes the template was completed with,
they do not touch the opcode, and every value of them is admitted. -/
def Template.Faithful : Template → Prop
  | .plain i => i.wellFormed = true ∧ i.immediates = []
  | .imm8 k => ∀ v, (k v).wellFormed = true ∧ (k v).opcode = (k 0).opcode ∧ (k v).immediates = [v]
  | .imm16 k => ∀ w, (k w).wellFormed = true ∧ (k w).opcode = (k 0).opcode ∧ (k w).immediates = [loByte w, hiByte w]

/-- A byte read as signed is in range and is encoded as itself (R68). -/
theorem offset_of_byte (v : Byte) : offsetInRange v.toInt = true ∧ BitVec.ofInt 8 v.toInt = v :=
  ⟨decide_eq_true ⟨v.le_toInt, Int.le_of_lt_add_one v.toInt_lt⟩, BitVec.ofInt_toInt⟩

theorem faithful_jr : (Template.imm8 fun v => .jr v.toInt).Faithful := fun v =>
  have ⟨hrange, hbyte⟩ := offset_of_byte v
  ⟨hrange, rfl, congrArg ([·]) hbyte⟩

theorem faithful_jrCond (cc : Cond) : (Template.imm8 fun v => Instr.jrCond cc v.toInt).Faithful := fun v => by
  obtain ⟨hrange, hbyte⟩ := offset_of_byte v
  cases cc <;> exact ⟨hrange, rfl, congrArg ([·]) hbyte⟩

/-- In quadrant 0 every branch is a builder on operands of its field's type. -/
theorem faithful_decodeQuadrant0 {op : Byte} {t : Template} (h : decodeQuadrant0 op = some t) : t.Faithful := by
  have ldPairImm (p) : (Template.imm16 (Instr.ldPairImm p)).Faithful := fun _ => by cases p <;> exact ⟨rfl, rfl, rfl⟩
  have incPair (p) : (Template.plain (Instr.incPair p)).Faithful := by cases p <;> exact ⟨rfl, rfl⟩
  have decPair (p) : (Template.plain (Instr.decPair p)).Faithful := by cases p <;> exact ⟨rfl, rfl⟩
  have inc8 (x) : (Template.plain (Instr.inc8 x)).Faithful := by rcases x with ⟨_ | _⟩ | _ <;> exact ⟨rfl, rfl⟩
  have dec8 (x) : (Template.plain (Instr.dec8 x)).Faithful := by rcases x with ⟨_ | _⟩ | _ <;> exact ⟨rfl, rfl⟩
  have ldImm8 (x) : (Template.imm8 (Instr.ldImm8 x)).Faithful := fun _ => by
    rcases x with ⟨_ | _⟩ | _ <;> exact ⟨rfl, rfl, rfl⟩
  unfold decodeQuadrant0 at h
  dsimp only at h
  split_ifs at h <;> cases h
  · exact ⟨rfl, rfl⟩
  · exact ldPairImm _
  · exact incPair _
  · exact decPair _
  · exact inc8 _
  · exact dec8 _
  · exact ldImm8 _
  · exact faithful_jr
  · exact faithful_jrCond _

theorem faithful_decodeQuadrant1 {op : Byte} {t : Template} (h : decodeQuadrant1 op = some t) : t.Faithful := by
  have ld (dst src) : (Template.plain (Instr.ld dst src)).Faithful := by
    rcases dst with ⟨_ | _⟩ | _ <;> rcases src with ⟨_ | _⟩ | _ <;> exact ⟨rfl, rfl⟩
  unfold decodeQuadrant1 at h
  split_ifs at h <;> cases h
  · exact ⟨rfl, rfl⟩
  · exact ld _ _

theorem faithful_decodeQuadrant2 {op : Byte} {t : Template} (h : decodeQuadrant2 op = some t) : t.Faithful := by
  have alu (o x) : (Template.plain (Instr.alu o x)).Faithful := by
    cases o <;> rcases x with ⟨_ | _⟩ | _ <;> exact ⟨rfl, rfl⟩
  cases h
  exact alu _ _

theorem fieldY_lt (op : Byte) : fieldY op < 8 := (op.extractLsb' 3 3).isLt

theorem faithful_decodeQuadrant3 {op : Byte} {t : Template} (h : decodeQuadrant3 op = some t) : t.Faithful := by
  have aluImm (o) : (Template.imm8 (Instr.aluImm o)).Faithful := fun _ => by cases o <;> exact ⟨rfl, rfl, rfl⟩
  have retCond (cc) : (Template.plain (Instr.retCond cc)).Faithful := by cases cc <;> exact ⟨rfl, rfl⟩
  have jpCond (cc) : (Template.imm16 (Instr.jpCond cc)).Faithful := fun _ => by cases cc <;> exact ⟨rfl, rfl, rfl⟩
  have callCond (cc) : (Template.imm16 (Instr.callCond cc)).Faithful := fun _ => by cases cc <;> exact ⟨rfl, rfl, rfl⟩
  have rst {n} (hn : n < 8) : (Template.plain (Instr.rst n)).Faithful := by interval_cases n <;> exact ⟨rfl, rfl⟩
  have popPair (p) : (Template.plain (Instr.popPair p)).Faithful := by cases p <;> exact ⟨rfl, rfl⟩
  have pushPair (p) : (Template.plain (Instr.pushPair p)).Faithful := by cases p <;> exact ⟨rfl, rfl⟩
  unfold decodeQuadrant3 at h
  dsimp only at h
  split_ifs at h <;> cases h
  · exact aluImm _
  · exact retCond _
  · exact jpCond _
  · exact callCond _
  · exact rst (fieldY_lt op)
  · exact popPair _
  · exact pushPair _

theorem faithful_unimplemented {n : Nat} {i : Instr} (h : Instr.unimplemented n = some i) :
    (Template.plain i).Faithful := by
  unfold Instr.unimplemented at h
  split at h <;> cases h <;> exact ⟨rfl, rfl⟩

/-- Every template of the decoder is faithful: the quadrant's, or the unimplemented byte's own row. -/
theorem faithful_decodeOpcode {op : Byte} {t : Template} (h : decodeOpcode op = some t) : t.Faithful := by
  unfold decodeOpcode at h
  split at h
  next u hu =>
    cases h
    unfold decodeImplemented at hu
    split at hu
    · exact faithful_decodeQuadrant0 hu
    · exact faithful_decodeQuadrant1 hu
    · exact faithful_decodeQuadrant2 hu
    · exact faithful_decodeQuadrant3 hu
  next =>
    obtain ⟨i, hi, rfl⟩ := Option.map_eq_some_iff.1 h
    exact faithful_unimplemented hi

/-- Every byte is the opcode of its own template's instructions, here with immediates zero: the 256 bytes, one by
one. -/
theorem zeroOpcode_decodeOpcode {op : Byte} {t : Template} (h : decodeOpcode op = some t) : t.zeroOpcode = op := by
  have all : ∀ o : Byte, (decodeOpcode o).map Template.zeroOpcode = some o := by decide
  have ho := all op
  rw [h] at ho
  exact Option.some.inj ho

/-- A faithful template completes only with bytes its instruction encodes to. -/
theorem encode_of_complete {op : Byte} {t : Template} {bytes rest : List Byte} {i : Instr} (ht : t.Faithful)
    (h : t.complete op bytes = .ok i rest) :
    i.wellFormed = true ∧ t.zeroOpcode :: bytes = encode i ++ rest := by
  cases t with
  | plain j =>
    cases h
    obtain ⟨hw, himm⟩ := ht
    exact ⟨hw, by rw [encode, himm]; rfl⟩
  | imm8 k =>
    match bytes, h with
    | v :: _, rfl =>
      obtain ⟨hw, hop, himm⟩ := ht v
      exact ⟨hw, by rw [encode, hop, himm]; rfl⟩
  | imm16 k =>
    match bytes, h with
    | lo :: hi :: _, rfl =>
      obtain ⟨hw, hop, himm⟩ := ht (hiLo hi lo)
      exact ⟨hw, by rw [encode, hop, himm, loByte_hiLo, hiByte_hiLo]; rfl⟩

theorem decode_cons {op : Byte} {t : Template} (h : decodeOpcode op = some t) (bytes : List Byte) :
    decode (op :: bytes) = t.complete op bytes := by rw [decode, h]

/-- What decodes is well-formed and encodes to the bytes read. -/
theorem encode_of_decode {bytes rest : List Byte} {i : Instr} (h : decode bytes = .ok i rest) :
    i.wellFormed = true ∧ encode i ++ rest = bytes := by
  cases bytes with
  | nil => cases h
  | cons op bytes =>
    obtain ⟨t, ht⟩ := Option.isSome_iff_exists.1 (decodeOpcode_isSome op)
    rw [decode_cons ht] at h
    obtain ⟨hw, henc⟩ := encode_of_complete (faithful_decodeOpcode ht) h
    rw [zeroOpcode_decodeOpcode ht] at henc
    exact ⟨hw, henc.symm⟩

/-- Settles O12. -/
theorem encodeOfDecodeIsTheBytes : Obligations.EncodeOfDecodeIsTheBytes := fun _ _ _ h => encode_of_decode h

/-! ## The decoder is total -/

/-- Two bytes after the opcode are enough for every template (R61). -/
theorem decode_three_bytes (op v w : Byte) (rest : List Byte) :
    ∃ i left, decode (op :: v :: w :: rest) = .ok i left := by
  obtain ⟨t, ht⟩ := Option.isSome_iff_exists.1 (decodeOpcode_isSome op)
  rw [decode_cons ht]
  cases t with
  | plain i => exact ⟨i, v :: w :: rest, rfl⟩
  | imm8 k => exact ⟨k v, w :: rest, rfl⟩
  | imm16 k => exact ⟨k (hiLo w v), rest, rfl⟩

theorem opcode_of_decode {op : Byte} {bytes rest : List Byte} {i : Instr} (h : decode (op :: bytes) = .ok i rest) :
    i.opcode = op := by
  obtain ⟨-, henc⟩ := encode_of_decode h
  exact (List.cons.inj henc).1

/-- R76 names no instruction for exactly the bytes of R77's list: the 256 bytes, one by one. -/
theorem decodeImplemented_eq_none_iff (op : Byte) : decodeImplemented op = none ↔ op.toNat ∈ unimplementedBytes := by
  have all : ∀ o : Byte, (decodeImplemented o).isNone = true ↔ o.toNat ∈ unimplementedBytes := by decide
  rw [← all, Option.isNone_iff_eq_none]

/-- Settles O13. -/
theorem threeBytesAlwaysDecode : Obligations.ThreeBytesAlwaysDecode := fun op v w rest =>
  have ⟨i, left, h⟩ := decode_three_bytes op v w rest
  ⟨⟨i, left, h, opcode_of_decode h⟩, decodeImplemented_eq_none_iff op⟩

end Sys2Proof
end

section
/-! The invariant (20_memory.md R41, R43; 10_state.md R26): every effect a completed instruction can have on memory and
F keeps it, and so does the load of an image. -/

namespace Sys2Proof.Machine

/-! ## Memory -/

/-- Every effect of an instruction on memory is writes in bounds, so it keeps the canonical form and the bound. -/
theorem MemEffect.keeps_wf {s : State} {m : Memory} (h : MemEffect s m) (hwf : s.mem.wf) : m.wf := by
  cases h with
  | none => exact hwf
  | one => exact Memory.write_wf hwf _ _
  | two => exact Memory.write_wf (Memory.write_wf hwf _ _) _ _

theorem MemEffect.keeps_bound {s : State} {m : Memory} (h : MemEffect s m) (hb : ∀ c ∈ s.mem, c.1 < s.cfg.memSize) :
    ∀ c ∈ m, c.1 < s.cfg.memSize := by
  cases h with
  | none => exact hb
  | one _ _ h1 => exact Memory.write_bounded hb (State.inBounds_iff.1 h1) _
  | two _ _ _ _ h1 h2 =>
    exact Memory.write_bounded (Memory.write_bounded hb (State.inBounds_iff.1 h1) _) (State.inBounds_iff.1 h2) _

/-! ## The low nibble of F -/

/-- POP AF's mask clears the low nibble of what it writes to F (R215). -/
theorem loByte_popped_af_low {s : State} (hm : s.cfg.popAfMasksF = true) (w : Word) :
    loByte (s.popped .af w) &&& 0x0F = 0 := by
  rw [State.popped, if_pos hm, loByte_hiLo, BitVec.and_assoc]
  exact BitVec.and_zero

theorem FlagEffect.keeps_low {s : State} {f : Byte} (h : FlagEffect s f) (hm : s.cfg.popAfMasksF = true)
    (hf : s.f &&& 0x0F = 0) : f &&& 0x0F = 0 := by
  cases h with
  | none => exact hf
  | built => exact flagsByte_low ..
  | popped w => exact loByte_popped_af_low hm w

/-! ## Steps -/

theorem Completed.keeps_inv {s t : State} (h : Completed s t) (hs : s.Inv) : t.Inv := by
  obtain ⟨hwf, hbound, hlow⟩ := hs
  refine ⟨h.mem.keeps_wf hwf, ?_, ?_⟩ <;> rw [h.cfg]
  · exact h.mem.keeps_bound hbound
  · exact fun hm => h.flags.keeps_low hm (hlow hm)

/-- A next state is the result of the instruction's form. -/
theorem exec_next {i : Instr} {s t : State} (h : exec i s = .next t) :
    i.form.completes s = true ∧ t = i.form.result s := Form.run_next.1 ((exec_eq_run i s).symm.trans h)

theorem completed_of_exec {i : Instr} {s t : State} (h : exec i s = .next t) : Completed s t := by
  obtain ⟨hc, rfl⟩ := exec_next h
  exact Form.result_completed hc

/-- A step that answers a next state leaves the state, its run having ended, or completes an instruction. -/
theorem step_next {s t : State} (h : step s = .next t) : t = s ∨ ∃ i, exec i s = .next t := by
  rcases step_cases s with ⟨r, -, hr⟩ | ⟨-, -, hr⟩ | ⟨i, -, hr⟩ | ⟨bad, -, -, hr⟩ <;> rw [hr] at h
  · cases h
  · cases h; exact .inl rfl
  · exact .inr ⟨i, h⟩
  · cases h

/-- Settles O47: a step that completes an instruction has that instruction's effects alone. -/
theorem stepKeepsTheInvariant : Obligations.StepKeepsTheInvariant := by
  intro s t hs h
  rcases step_next h with rfl | ⟨i, hi⟩
  · exact hs
  · exact (completed_of_exec hi).keeps_inv hs

/-- Settles O53: it is what every completed form leaves. -/
theorem parametersAndRecordStay : Obligations.ParametersAndRecordStay := fun _ _ _ h =>
  have hc := completed_of_exec h
  ⟨hc.fault, hc.instrBound, hc.cfg⟩

/-! ## Reset, and the load of an image -/

/-- Settles O48. -/
theorem resetMeetsTheInvariant : Obligations.ResetMeetsTheInvariant :=
  ⟨Memory.wf_nil, fun _ h => absurd h List.not_mem_nil, fun _ => rfl⟩

theorem Memory.load_bounded {n : Nat} (image : List Byte) {m : Memory} (h : ∀ c ∈ m, c.1 < n) {addr : Nat}
    (hn : addr + image.length ≤ n) : ∀ c ∈ m.load addr image, c.1 < n := by
  induction image generalizing m addr with
  | nil => exact h
  | cons v vs ih =>
    rw [List.length_cons] at hn
    exact ih (Memory.write_bounded h (by omega) v) (by omega)

/-- A loaded image reads byte for byte from its address up, and every other address as before. -/
theorem Memory.read_load (image : List Byte) {m : Memory} (h : m.wf) (addr x : Nat) :
    (m.load addr image).read x =
      if addr ≤ x ∧ x < addr + image.length then image.getD (x - addr) 0 else m.read x := by
  induction image generalizing m addr with
  | nil => exact (if_neg (by simp)).symm
  | cons v vs ih =>
    rw [Memory.load, ih (Memory.write_wf h addr v), Memory.read_write h, List.length_cons]
    rcases Nat.lt_trichotomy x addr with hlt | rfl | hgt
    · rw [if_neg (by omega), if_neg (by omega), if_neg (by omega)]
    · rw [if_neg (by omega), if_pos rfl, if_pos (by omega), Nat.sub_self, List.getD_cons_zero]
    · have hsucc : x - addr = (x - (addr + 1)) + 1 := by omega
      rw [if_neg (show x ≠ addr by omega), hsucc, List.getD_cons_succ]
      exact if_congr (by omega) rfl rfl

/-- When reset with an image answers, and what (R321). -/
theorem State.resetWith_eq_some {cfg : Config} {image : List Byte} {s : State} :
    State.resetWith cfg image = some s ↔
      (cfg.wellFormed ∧ 1 ≤ image.length ∧ image.length ≤ cfg.memSize) ∧
        { State.reset with cfg := cfg }.loadImage image = s := by
  rw [State.resetWith, Option.ite_none_right_eq_some, Option.some.injEq]

/-- Settles O49: the image lies within memory, and F is reset's. -/
theorem resetWithMeetsTheInvariant : Obligations.ResetWithMeetsTheInvariant := by
  intro cfg image s h
  obtain ⟨⟨-, -, hlen⟩, rfl⟩ := State.resetWith_eq_some.1 h
  refine ⟨Memory.load_wf image Memory.wf_nil _, ?_, fun _ => (rfl : (0x00 : Byte) &&& 0x0F = 0)⟩
  exact Memory.load_bounded image (fun _ h => absurd h List.not_mem_nil) ((Nat.zero_add _).trans_le hlen)

theorem State.resetWith_eq_none {cfg : Config} {image : List Byte} :
    State.resetWith cfg image = none ↔ ¬ (cfg.wellFormed ∧ 1 ≤ image.length ∧ image.length ≤ cfg.memSize) := by
  simp [State.resetWith]

/-- An image loaded over empty memory at 0 is all that memory holds. -/
theorem Memory.read_load_nil_zero (image : List Byte) (x : Nat) : (Memory.load [] 0 image).read x = image.getD x 0 := by
  rw [Memory.read_load image Memory.wf_nil, Memory.read_nil, Nat.zero_add, Nat.sub_zero]
  by_cases hx : x < image.length
  · rw [if_pos ⟨Nat.zero_le x, hx⟩]
  · rw [if_neg fun h => hx h.2, List.getD_eq_default _ _ (Nat.le_of_not_lt hx)]

/-- Settles O2. -/
theorem resetWithLoadsTheImage : Obligations.ResetWithLoadsTheImage := by
  refine fun cfg image => ⟨State.resetWith_eq_none, fun s h => ?_⟩
  obtain ⟨-, rfl⟩ := State.resetWith_eq_some.1 h
  exact ⟨rfl, Memory.read_load_nil_zero image⟩

/-- Settles O1. -/
theorem resetIsAllZero : Obligations.ResetIsAllZero :=
  ⟨rfl, rfl, rfl, rfl, rfl, rfl, rfl, rfl, rfl, rfl, rfl, rfl, rfl, rfl, Memory.read_nil⟩

end Sys2Proof.Machine
end

section
/-! The run (41_execution_loop.md R121): when a state runs, the one stop it has when not, and that a stop is final. -/

namespace Sys2Proof.Machine

/-- Settles O3: the stops are tested in order, so each of the four answers has the conditions before it false. -/
theorem everyStateRunsOrHasOneStop : Obligations.EveryStateRunsOrHasOneStop := by
  intro s
  refine ⟨s.running_iff, ?_⟩
  rw [s.running_iff]
  unfold State.stop
  cases s.fault with
  | some r => simp
  | none =>
    cases s.halted with
    | true => simp
    | false =>
      rcases Nat.lt_or_ge s.pc.toNat s.instrBound with hp | hp
      · simp [hp, Nat.not_le.2 hp]
      · simp [hp, Nat.not_lt.2 hp]

theorem State.stop_of_fault {s : State} {r : Fault} (h : s.fault = some r) : s.stop = some .faulted :=
  have ⟨_, _, hfaulted, _⟩ := everyStateRunsOrHasOneStop s
  hfaulted.2 (by rw [h]; exact nofun)

theorem State.not_running_of_stop {s : State} {x : Stop} (h : s.stop = some x) : s.running = false := by
  obtain ⟨-, hnone, -⟩ := everyStateRunsOrHasOneStop s
  rw [← Bool.not_eq_true, ← hnone, h]
  exact nofun

/-- A step of a state that neither runs nor is faulted answers the state itself. -/
theorem step_of_ended {s : State} (hf : s.fault = none) (hr : s.running = false) : step s = .next s := by
  rcases step_cases s with ⟨r, h, -⟩ | ⟨-, -, h⟩ | ⟨i, h, -⟩ | ⟨bad, h, -⟩
  · rw [hf] at h; cases h
  · exact h
  · rw [hr] at h; cases h
  · rw [hr] at h; cases h

theorem step_of_fault {s : State} {r : Fault} (h : s.fault = some r) : step s = .fault r := by
  rw [step, h]
  rfl

/-- Settles O4. -/
theorem endedRunIsFinal : Obligations.EndedRunIsFinal := by
  intro s
  obtain ⟨-, -, -, hhalted, hbound⟩ := everyStateRunsOrHasOneStop s
  refine ⟨fun h => ?_, fun r => step_of_fault⟩
  rcases h with h | h
  · exact step_of_ended (hhalted.1 h).1 (State.not_running_of_stop h)
  · exact step_of_ended (hbound.1 h).1 (State.not_running_of_stop h)

/-- The loop leaves a state that is not running as it is, for any number of turns. -/
theorem State.runLoop_of_not_running {s : State} (h : s.running = false) (n : Nat) : State.runLoop n s = s := by
  induction n with
  | zero => rfl
  | succ n ih => rw [State.runLoop, State.loopStep_of_not_running h, ih]

theorem State.loopStep_of_step_fault {s : State} {r : Fault} (hr : s.running = true) (h : step s = .fault r) :
    s.loopStep = s.recordFault r := by
  rw [State.loopStep, if_pos hr, h]

/-- Settles O9: the recorded fault is the stop, and a stopped state is final. -/
theorem loopRecordsTheFaultForGood : Obligations.LoopRecordsTheFaultForGood := by
  intro s r hr h
  have hfault : s.loopStep.fault = some r := by rw [State.loopStep_of_step_fault hr h]; rfl
  have hstop := State.stop_of_fault hfault
  exact ⟨hfault, hstop, State.runLoop_of_not_running (State.not_running_of_stop hstop)⟩

end Sys2Proof.Machine
end

section
/-! The fetch (20_memory.md R56, 41_execution_loop.md R122): with its bytes in bounds it reads exactly the instruction
they encode, else it faults at the first byte out of bounds. -/

namespace Sys2Proof.Machine

variable {s : State}

/-! ## The bytes of an instruction in memory -/

theorem State.take_bytesAt (s : State) (addr : Word) {m n : Nat} (h : m ≤ n) :
    (s.bytesAt addr n).take m = s.bytesAt addr m := by
  induction n generalizing addr m with
  | zero => rw [Nat.le_zero.1 h]; rfl
  | succ n ih =>
    cases m with
    | zero => rfl
    | succ m => exact congrArg _ (ih (addr + 1) (Nat.le_of_succ_le_succ h))

/-- A run of bytes in bounds is its first byte and the run after it. -/
theorem State.inBounds_run_succ {addr : Word} {n : Nat}
    (h : ∀ m < n + 1, s.inBounds (addr + BitVec.ofNat 16 m) = true) :
    s.inBounds addr = true ∧ ∀ m < n, s.inBounds (addr + 1 + BitVec.ofNat 16 m) = true := by
  refine ⟨by simpa using h 0 (Nat.succ_pos n), fun m hm => ?_⟩
  have hm1 := h (m + 1) (Nat.succ_lt_succ hm)
  rwa [Nat.add_comm m, BitVec.ofNat_add, ← BitVec.add_assoc] at hm1

theorem State.loadListThen_ok {addr : Word} {n : Nat} (h : ∀ m < n, s.inBounds (addr + BitVec.ofNat 16 m) = true)
    (k : List Byte → Result) : s.loadListThen addr n k = k (s.bytesAt addr n) := by
  induction n generalizing addr k with
  | zero => rfl
  | succ n ih =>
    obtain ⟨hfirst, hrest⟩ := State.inBounds_run_succ h
    exact (State.loadThen_ok hfirst _).trans (ih hrest _)

theorem length_of_complete {op : Byte} {t : Template} {bytes rest : List Byte} {i : Instr}
    (h : t.complete op bytes = .ok i rest) : bytes.length = t.immBytes + rest.length := by
  cases t with
  | plain j => cases h; exact (Nat.zero_add _).symm
  | imm8 k =>
    match bytes, h with
    | _ :: _, rfl => exact Nat.add_comm ..
  | imm16 k =>
    match bytes, h with
    | _ :: _ :: _, rfl => exact Nat.add_comm _ 2

/-- The fetch asks for as many immediate bytes as the encoder writes (R61). -/
theorem immBytesOf_opcode {i : Instr} (h : i.wellFormed = true) : immBytesOf i.opcode = i.immediates.length := by
  obtain ⟨t, ht⟩ := Option.isSome_iff_exists.1 (decodeOpcode_isSome i.opcode)
  have hdecode := decode_encode_append h []
  rw [encode, List.append_nil, decode_cons ht] at hdecode
  rw [immBytesOf, ht]
  exact (length_of_complete hdecode).symm

/-- The bytes an instruction encodes to stand at PC, in bounds. -/
structure State.Holds (s : State) (i : Instr) : Prop where
  wellFormed : i.wellFormed = true
  bytes : s.bytesAt s.pc i.length = encode i
  inBounds : ∀ n < i.length, s.inBounds (s.pc + BitVec.ofNat 16 n) = true

/-- A fetch reads the instruction whose bytes stand at PC. -/
theorem State.fetchThen_of_holds {i : Instr} (h : s.Holds i) (k : Instr → Result) : s.fetchThen k = k i := by
  obtain ⟨hop, himm⟩ := List.cons.inj (show s.peek s.pc :: s.bytesAt (s.pc + 1) i.immediates.length = _ from h.bytes)
  obtain ⟨hfirst, hrest⟩ := State.inBounds_run_succ (n := i.immediates.length) h.inBounds
  have hdecode := decode_encode_append h.wellFormed []
  rw [encode, List.append_nil] at hdecode
  rw [State.fetchThen, State.loadThen_ok hfirst, hop, immBytesOf_opcode h.wellFormed, State.loadListThen_ok hrest, himm,
    hdecode]

/-- A running state executes the instruction whose bytes stand at PC. -/
theorem step_of_holds {i : Instr} (hr : s.running = true) (h : s.Holds i) : step s = exec i s :=
  (step_of_running hr).trans (State.fetchThen_of_holds h _)

/-- What three bytes at PC decode to stands at PC, if the bytes it used are in bounds. -/
theorem State.holds_of_decode {i : Instr} {rest : List Byte} (hd : decode (s.bytesAt s.pc 3) = .ok i rest)
    (hin : ∀ n < 3 - rest.length, s.inBounds (s.pc + BitVec.ofNat 16 n) = true) : s.Holds i := by
  obtain ⟨hw, henc⟩ := encode_of_decode hd
  have hlen : i.length + rest.length = 3 := by
    rw [Instr.length, ← List.length_append, henc, State.bytesAt_length]
  refine ⟨hw, ?_, fun n hn => hin n (by omega)⟩
  calc s.bytesAt s.pc i.length = (s.bytesAt s.pc 3).take i.length := (s.take_bytesAt _ (by omega)).symm
    _ = encode i := by rw [← henc]; exact List.take_left

/-- A byte that is an instruction alone stands at PC as soon as it is in bounds there. -/
theorem State.holds_of_decode_byte {i : Instr} {v : Byte} (hd : decode [v] = .ok i [])
    (hv : s.peek s.pc = v) (hin : s.inBounds s.pc = true) : s.Holds i := by
  obtain ⟨hw, henc⟩ := encode_of_decode hd
  rw [List.append_nil] at henc
  have hlen : i.length = 1 := congrArg List.length henc
  refine ⟨hw, ?_, fun n hn => ?_⟩
  · rw [hlen, henc, ← hv]
    rfl
  · rw [hlen, Nat.lt_one_iff] at hn
    simpa [hn] using hin

/-- Settles O5. -/
theorem stepRunsDecodedInstruction : Obligations.StepRunsDecodedInstruction :=
  fun _ _ _ hr hd _ hin => step_of_holds hr (State.holds_of_decode hd hin)

/-! ## The first byte out of bounds -/

/-- Settles O6: each read of the fetch, in address order, goes on or is the fault. -/
theorem fetchFaultsInAddressOrder : Obligations.FetchFaultsInAddressOrder := by
  intro s hr
  rw [step_of_running hr, State.runInstruction, State.fetchThen]
  refine ⟨fun h0 => State.loadThen_out h0 _, fun h0 hn h1 => ?_, fun h0 hn h1 h2 => ?_⟩ <;> rw [State.loadThen_ok h0]
  · obtain ⟨n, hn⟩ := Nat.exists_eq_add_of_le' hn
    rw [hn]
    exact State.loadThen_out h1 _
  · rw [hn]
    refine (State.loadThen_ok h1 _).trans ?_
    rw [← Word.add_one_add_one] at h2 ⊢
    exact State.loadThen_out h2 _

/-! ## The unimplemented bytes (R77) -/

/-- Each of the 50 bytes has a constructor of its own, whose opcode it is and whose form is to stop. -/
theorem unimplemented_of_mem {n : Nat} (h : n ∈ unimplementedBytes) :
    ∃ i ∈ Instr.unimplemented n, i.opcode.toNat = n ∧ i.form = .unimplemented i.opcode := by
  have all : ∀ n ∈ unimplementedBytes,
      ∃ i ∈ Instr.unimplemented n, i.opcode.toNat = n ∧ i.form = .unimplemented i.opcode := by decide
  exact all n h

/-- Its opcode alone is its encoding. -/
theorem decode_unimplemented {n : Nat} {i : Instr} (h : Instr.unimplemented n = some i) :
    decode [i.opcode] = .ok i [] := by
  obtain ⟨hw, himm⟩ := faithful_unimplemented h
  have hdecode := decode_encode_append hw []
  rwa [encode, himm] at hdecode

theorem exec_unimplemented {i : Instr} (h : i.form = .unimplemented i.opcode) (s : State) :
    exec i s = .fault (.unimplementedOpcode i.opcode s.pc) := by
  rw [exec_eq_run, h]
  rfl

/-- Settles O8. -/
theorem unimplementedInstructionsStop : Obligations.UnimplementedInstructionsStop := by
  refine ⟨rfl, fun n hn => ?_⟩
  obtain ⟨i, hi, rfl, hform⟩ := unimplemented_of_mem hn
  refine ⟨i, ?_, rfl, hi, exec_unimplemented hform⟩
  rw [BitVec.ofNat_toNat, BitVec.setWidth_eq]
  exact decode_unimplemented hi

/-- Settles O7: the byte alone is the instruction, so nothing more is read. -/
theorem unimplementedByteStopsTheStep : Obligations.UnimplementedByteStopsTheStep := by
  intro s hr hin hmem
  obtain ⟨i, hi, hop, hform⟩ := unimplemented_of_mem hmem
  have hop : i.opcode = s.peek s.pc := BitVec.eq_of_toNat_eq hop
  have holds : s.Holds i := State.holds_of_decode_byte (decode_unimplemented hi) hop.symm hin
  rw [step_of_holds hr holds, exec_unimplemented hform, hop]

end Sys2Proof.Machine
end

section
/-! Faults (60_exceptions.md R300 to R303): what each form that does not complete raises, and what a step can answer. -/

namespace Sys2Proof.Machine

variable {s : State}

theorem State.pushFault_out (h : s.canPush = false) :
    ∃ addr dir, s.pushFault = .memoryOutOfBounds addr dir ∧ s.inBounds addr = false := by
  unfold State.canPush at h
  unfold State.pushFault
  cases h1 : s.inBounds (s.sp - 1) with
  | false => exact ⟨s.sp - 1, .write, rfl, h1⟩
  | true => rw [h1] at h; exact ⟨s.sp - 2, .write, rfl, h⟩

theorem State.popFault_out (h : s.canPop = false) :
    ∃ addr dir, s.popFault = .memoryOutOfBounds addr dir ∧ s.inBounds addr = false := by
  unfold State.canPop at h
  unfold State.popFault
  cases h1 : s.inBounds s.sp with
  | false => exact ⟨s.sp, .read, rfl, h1⟩
  | true => rw [h1] at h; exact ⟨s.sp + 1, .read, rfl, h⟩

/-- A form that does not complete is unimplemented or accesses an address out of bounds. -/
theorem Form.stopFault_cause {f : Form} (h : f.completes s = false) :
    (∃ op, f = .unimplemented op ∧ f.stopFault s = .unimplementedOpcode op s.pc) ∨
      ∃ addr dir, f.stopFault s = .memoryOutOfBounds addr dir ∧ s.inBounds addr = false := by
  cases f with
  | incAtHL | decAtHL | ldAtHLImm | ldRegAtHL | ldAtHLReg | aluAtHL => exact .inr ⟨_, _, rfl, h⟩
  | rst | push => exact .inr (State.pushFault_out h)
  | callCond => exact .inr (State.pushFault_out (Bool.or_eq_false_iff.1 h).2)
  | pop => exact .inr (State.popFault_out h)
  | retCond => exact .inr (State.popFault_out (Bool.or_eq_false_iff.1 h).2)
  | unimplemented op => exact .inl ⟨op, rfl, rfl⟩
  | _ => cases h

/-- Only the rows of R77 have the unimplemented form, each with its own byte. -/
theorem unimplemented_of_form {i : Instr} {op : Byte} (h : i.form = .unimplemented op) :
    op = i.opcode ∧ Instr.unimplemented i.opcode.toNat = some i := by
  cases i <;> cases h <;> exact ⟨rfl, rfl⟩

theorem exec_fault_cause {i : Instr} {r : Fault} (h : exec i s = .fault r) :
    (r = .unimplementedOpcode i.opcode s.pc ∧ Instr.unimplemented i.opcode.toNat = some i) ∨
      ∃ addr dir, r = .memoryOutOfBounds addr dir ∧ s.inBounds addr = false := by
  rw [exec_eq_run] at h
  obtain ⟨hc, rfl⟩ := Form.run_fault.1 h
  rcases Form.stopFault_cause hc with ⟨op, hform, hr⟩ | hout
  · obtain ⟨rfl, hi⟩ := unimplemented_of_form hform
    exact .inl ⟨hr, hi⟩
  · exact .inr hout

theorem exec_not_refused (i : Instr) (s : State) (q : Refusal) : exec i s ≠ .refused q := by
  rw [exec_eq_run]
  exact Form.run_not_refused _ s q

/-- Settles O57. -/
theorem everyFaultHasItsCause : Obligations.EveryFaultHasItsCause := by
  refine fun i s => ⟨fun r h => ?_, exec_not_refused i s⟩
  rcases exec_fault_cause h with hun | ⟨addr, dir, hr, hout⟩
  · exact .inl hun
  · exact .inr ⟨addr, dir, hr, State.not_inBounds_iff.1 hout⟩

theorem exec_not_invalidSelector (i : Instr) (s : State) : exec i s ≠ .fault .invalidSelector := by
  intro h
  rcases exec_fault_cause h with ⟨hr, -⟩ | ⟨addr, dir, hr, -⟩ <;> cases hr

/-- Settles O58: a step's fault is the recorded one, an instruction's, or a fetch's. -/
theorem invalidSelectorIsNeverRaised : Obligations.InvalidSelectorIsNeverRaised := by
  intro s
  rcases step_cases s with ⟨r, hf, h⟩ | ⟨-, -, h⟩ | ⟨i, -, h⟩ | ⟨bad, -, -, h⟩ <;> rw [h]
  · exact ⟨fun hnone => absurd (hf.symm.trans hnone) nofun, nofun⟩
  · exact ⟨fun _ => nofun, nofun⟩
  · exact ⟨fun _ => exec_not_invalidSelector i s, exec_not_refused i s⟩
  · exact ⟨fun _ => nofun, nofun⟩

end Sys2Proof.Machine
end

section
/-! The opcode map (30_encoding.md R71 to R74): the words of each form, operand codes as the selectors number them. -/

namespace Sys2Proof.Machine

section Words

variable (dst src : Reg8) (o : AluOp) (cc : Cond) (p : StackPair)

theorem decode_ldRegReg :
    decode [BitVec.ofNat 8 (0x40 + 8 * regCode dst + regCode src)] = .ok (Instr.ldRegReg dst src) [] := by
  cases dst <;> cases src <;> rfl

theorem decode_ldRegAtHL : decode [BitVec.ofNat 8 (0x46 + 8 * regCode dst)] = .ok (Instr.ldRegAtHL dst) [] := by
  cases dst <;> rfl

theorem decode_ldAtHLReg : decode [BitVec.ofNat 8 (0x70 + regCode src)] = .ok (Instr.ldAtHLReg src) [] := by
  cases src <;> rfl

theorem decode_aluReg :
    decode [BitVec.ofNat 8 (0x80 + 8 * aluCode o + regCode src)] = .ok (Instr.aluReg o src) [] := by
  cases o <;> cases src <;> rfl

theorem decode_aluAtHL : decode [BitVec.ofNat 8 (0x86 + 8 * aluCode o)] = .ok (Instr.aluAtHL o) [] := by
  cases o <;> rfl

theorem decode_aluImm (d8 : Byte) :
    decode [BitVec.ofNat 8 (0xC6 + 8 * aluCode o), d8] = .ok (Instr.aluImm o d8) [] := by
  cases o <;> rfl

theorem decode_retCond : decode [BitVec.ofNat 8 (0xC0 + 8 * condCode cc)] = .ok (Instr.retCond cc) [] := by
  cases cc <;> rfl

theorem decode_jpCond (lo hi : Byte) :
    decode [BitVec.ofNat 8 (0xC2 + 8 * condCode cc), lo, hi] = .ok (Instr.jpCond cc (hiLo hi lo)) [] := by
  cases cc <;> rfl

theorem decode_callCond (lo hi : Byte) :
    decode [BitVec.ofNat 8 (0xC4 + 8 * condCode cc), lo, hi] = .ok (Instr.callCond cc (hiLo hi lo)) [] := by
  cases cc <;> rfl

theorem decode_ldPairImm (q : Pair16) (lo hi : Byte) :
    decode [(Instr.ldPairImm q 0).opcode, lo, hi] = .ok (Instr.ldPairImm q (hiLo hi lo)) [] := by
  cases q <;> rfl

theorem decode_rst {t : Nat} (h : t < 8) : decode [BitVec.ofNat 8 (0xC7 + 8 * t)] = .ok (Instr.rst t) [] := by
  interval_cases t <;> rfl

theorem decode_pushPair : decode [BitVec.ofNat 8 (0xC5 + 16 * stackPairCode p)] = .ok (Instr.pushPair p) [] := by
  cases p <;> rfl

theorem decode_popPair : decode [BitVec.ofNat 8 (0xC1 + 16 * stackPairCode p)] = .ok (Instr.popPair p) [] := by
  cases p <;> rfl

theorem opcode_jpCond : (Instr.jpCond cc 0).opcode = BitVec.ofNat 8 (0xC2 + 8 * condCode cc) := by cases cc <;> rfl

theorem opcode_callCond : (Instr.callCond cc 0).opcode = BitVec.ofNat 8 (0xC4 + 8 * condCode cc) := by cases cc <;> rfl

end Words

/-- Settles O15: the first byte after the opcode is the word's low byte, for all three forms. -/
theorem wideImmediatesAreLittleEndian : Obligations.WideImmediatesAreLittleEndian := by
  refine ⟨fun p cc lo hi => ⟨decode_ldPairImm p lo hi, ?_, ?_, hiLo_toNat hi lo⟩, rfl, fun s => ⟨_, rfl, rfl, rfl⟩⟩
  · rw [opcode_jpCond]
    exact decode_jpCond cc lo hi
  · rw [opcode_callCond]
    exact decode_callCond cc lo hi

/-- Settles O16. -/
theorem sampleWordsDecode : Obligations.SampleWordsDecode :=
  ⟨rfl, rfl, rfl, rfl, rfl, rfl, rfl, rfl, rfl, rfl, rfl⟩

end Sys2Proof.Machine
end

section
/-! The register forms (42_quadrant0.md, 43_quadrant1.md): what a written register or pair reads as, and that a
completed form touches nothing else but PC and the counter. -/

namespace Sys2Proof.Machine

/-! ## Running a form to its end -/

theorem Form.run_of_completes {f : Form} {s : State} (h : f.completes s = true) : f.run s = .next (f.result s) :=
  Form.run_next.2 ⟨h, rfl⟩

theorem Form.run_of_stops {f : Form} {s : State} (h : f.completes s = false) : f.run s = .fault (f.stopFault s) :=
  Form.run_fault.2 ⟨h, rfl⟩

/-! ## Reads after writes of a register or a pair -/

section Reads

variable (s : State)

@[simp] theorem State.get16_set16_same (p : Pair16) (v : Word) : (s.set16 p v).get16 p = v := by
  cases p with
  | sp => rfl
  | _ => exact hiLo_hiByte_loByte v

theorem State.get16_set16_other {p q : Pair16} (h : q ≠ p) (v : Word) : (s.set16 p v).get16 q = s.get16 q := by
  cases p <;> cases q <;> simp [State.get16, State.set16, State.bc, State.de, State.hl] at h ⊢

@[simp] theorem State.getStackPair_setStackPair_same (p : StackPair) (v : Word) :
    (s.setStackPair p v).getStackPair p = v := by cases p <;> exact hiLo_hiByte_loByte v

theorem State.getStackPair_setStackPair_other {p q : StackPair} (h : q ≠ p) (v : Word) :
    (s.setStackPair p v).getStackPair q = s.getStackPair q := by
  cases p <;> cases q <;> simp [State.getStackPair, State.setStackPair, State.bc, State.de, State.hl, State.af] at h ⊢

end Reads

/-! ## Frames of the completed register forms -/

section Frames

variable (s : State) (len cost : Nat)

/-- Writing a register and completing changes the seven registers, PC and the counter at most. -/
theorem State.advance_set8_frame (r : Reg8) (v : Byte) :
    (s.set8 r v).advance len cost =
      { s with b := (s.set8 r v).b, c := (s.set8 r v).c, d := (s.set8 r v).d, e := (s.set8 r v).e,
               h := (s.set8 r v).h, l := (s.set8 r v).l, a := (s.set8 r v).a,
               pc := s.pc + BitVec.ofNat 16 len, cycles := s.cycles + BitVec.ofNat 64 cost } := by
  cases r <;> rfl

/-- Writing a pair and completing changes the six registers of the pairs, SP, PC and the counter at most. -/
theorem State.advance_set16_frame (p : Pair16) (v : Word) :
    (s.set16 p v).advance len cost =
      { s with b := (s.set16 p v).b, c := (s.set16 p v).c, d := (s.set16 p v).d, e := (s.set16 p v).e,
               h := (s.set16 p v).h, l := (s.set16 p v).l, sp := (s.set16 p v).sp,
               pc := s.pc + BitVec.ofNat 16 len, cycles := s.cycles + BitVec.ofNat 64 cost } := by
  cases p <;> rfl

theorem State.get8_advance_set8_other {r q : Reg8} (h : q ≠ r) (v : Byte) :
    ((s.set8 r v).advance len cost).get8 q = s.get8 q := by
  rw [State.get8_advance, State.get8_set8_other s r q v h]

theorem State.get16_advance_set16_other {p q : Pair16} (h : q ≠ p) (v : Word) :
    ((s.set16 p v).advance len cost).get16 q = s.get16 q := by
  rw [State.get16_advance, State.get16_set16_other s h]

end Frames

/-! ## Loads -/

/-- Settles O27. -/
theorem loadRegisterImmediate : Obligations.LoadRegisterImmediate := fun r d8 s =>
  ⟨(s.set8 r d8).advance 2 _, exec_ldRegImm s r d8, by simp, fun _ hq => s.get8_advance_set8_other _ _ hq d8,
    s.advance_set8_frame 2 _ r d8⟩

/-- Settles O31. -/
theorem loadRegisterRegister : Obligations.LoadRegisterRegister :=
  ⟨rfl, fun dst src s => ⟨decode_ldRegReg dst src, (s.set8 dst (s.get8 src)).advance 1 _, exec_ldRegReg s dst src,
    by simp, fun _ hq => s.get8_advance_set8_other _ _ hq _, s.advance_set8_frame 1 _ dst _⟩⟩

/-- Loading a register into itself writes what it holds. -/
theorem State.set8_get8 (s : State) (r : Reg8) : s.set8 r (s.get8 r) = s := by cases r <;> rfl

/-- Settles O14. -/
theorem quadrantOneDecodes : Obligations.QuadrantOneDecodes := by
  refine ⟨rfl, decode_ldRegReg, decode_ldRegAtHL, decode_ldAtHLReg, fun r s => ⟨_, exec_ldRegReg s r r, ?_⟩⟩
  rw [State.set8_get8]
  rfl

/-- The byte at HL, by its address as a number. -/
theorem State.peek_hl (s : State) : s.peek s.hl = s.mem.read (s.h.toNat * 256 + s.l.toNat) := by
  rw [State.peek, State.hl, hiLo_toNat]

/-- Settles O32: the byte is read before the register is written, so H and L need no case of their own. -/
theorem loadRegisterFromMemory : Obligations.LoadRegisterFromMemory := by
  refine ⟨rfl, fun dst s => ⟨decode_ldRegAtHL dst, fun h => ?_, fun h => ?_⟩⟩ <;> rw [exec_ldRegAtHL]
  · exact ⟨(s.set8 dst (s.peek s.hl)).advance 1 _, State.loadThen_ok h _, by simp [State.peek_hl],
      fun _ hq => s.get8_advance_set8_other _ _ hq _, s.advance_set8_frame 1 _ dst _⟩
  · exact State.loadThen_out h _

/-- Settles O23. -/
theorem loadPairImmediate : Obligations.LoadPairImmediate := fun p d16 s =>
  ⟨(s.set16 p d16).advance 3 _, exec_ldPairImm s p d16, by simp, fun _ hq => s.get16_advance_set16_other _ _ hq d16,
    s.advance_set16_frame 3 _ p d16⟩

/-! ## Increments and decrements -/

theorem inc16_toNat (v : Word) : (inc16 v).toNat = (v.toNat + 1) % 65536 := BitVec.toNat_add ..

theorem dec16_toNat (v : Word) : (dec16 v).toNat = (v.toNat + 65535) % 65536 := by
  rw [Nat.add_comm]
  exact BitVec.toNat_sub ..

/-- Settles O24. -/
theorem incDecPairKeepsFlags : Obligations.IncDecPairKeepsFlags := fun p s =>
  ⟨⟨(s.set16 p (inc16 (s.get16 p))).advance 1 _, exec_incPair s p, by simp [inc16_toNat],
      fun _ hq => s.get16_advance_set16_other _ _ hq _, s.advance_set16_frame 1 _ p _⟩,
    ⟨(s.set16 p (dec16 (s.get16 p))).advance 1 _, exec_decPair s p, by simp [dec16_toNat],
      fun _ hq => s.get16_advance_set16_other _ _ hq _, s.advance_set16_frame 1 _ p _⟩⟩

/-- A byte is zero when its value is. -/
theorem Byte.beq_zero (v : Byte) : (v == 0) = (v.toNat == 0) := by
  rw [Bool.eq_iff_iff, beq_iff_eq, beq_iff_eq]
  exact BitVec.toNat_inj.symm

/-- The flag byte built from the flags of a specified result is its `byte`. -/
theorem AluSpec.byte_eq (r : AluSpec) : (flagsByte r.z r.n r.h r.c).toNat = r.byte := flagsByte_toNat ..

section Inc8

variable (v : Byte) (c : Bool)

theorem inc8_res_toNat : (inc8 v c).res.toNat = (incSpec v.toNat c).res := aluAdd_res_toNat v 1 false

theorem dec8_res_toNat : (dec8 v c).res.toNat = (decSpec v.toNat c).res := by
  have h : (aluSub v 1 false).res.toNat = (v.toNat + 512 - 1 - 0) % 256 := aluSub_res_toNat v 1 false
  exact h.trans (show _ = (v.toNat + 255) % 256 by omega)

/-- Z and H of the addition of 1, as conditions on the operand (R144). -/
theorem inc8_flags_toNat : (inc8 v c).flags.toNat = (incSpec v.toNat c).byte := by
  obtain ⟨hz, -, hh, -, -⟩ := flags_of_eq_flagsByte (aluAdd_flags v 1 false)
  have hres : (aluAdd v 1 false).res.toNat = (v.toNat + 1) % 256 := inc8_res_toNat v c
  have hv := v.isLt
  have hzero : ((v.toNat + 1) % 256 == 0) = (v.toNat == 255) := by
    rw [Bool.eq_iff_iff, beq_iff_eq, beq_iff_eq]
    omega
  have hhalf : decide (15 < v.toNat % 16 + 1 + 0) = (v.toNat % 16 == 15) := by
    rw [Bool.eq_iff_iff, decide_eq_true_eq, beq_iff_eq]
    omega
  rw [inc8, hz, hh, Byte.beq_zero, hres, hzero]
  exact (congrArg (fun h => (flagsByte _ _ h _).toNat) hhalf).trans (AluSpec.byte_eq (incSpec v.toNat c))

/-- Z and H of the subtraction of 1, as conditions on the operand (R146). -/
theorem dec8_flags_toNat : (dec8 v c).flags.toNat = (decSpec v.toNat c).byte := by
  obtain ⟨hz, -, hh, -, -⟩ := flags_of_eq_flagsByte (aluSub_flags v 1 false)
  have hres : (aluSub v 1 false).res.toNat = (v.toNat + 255) % 256 := dec8_res_toNat v c
  have hv := v.isLt
  have hzero : ((v.toNat + 255) % 256 == 0) = (v.toNat == 1) := by
    rw [Bool.eq_iff_iff, beq_iff_eq, beq_iff_eq]
    omega
  have hhalf : decide (v.toNat % 16 < 1 + 0) = (v.toNat % 16 == 0) := by
    rw [Bool.eq_iff_iff, decide_eq_true_eq, beq_iff_eq]
    omega
  rw [dec8, hz, hh, Byte.beq_zero, hres, hzero]
  exact (congrArg (fun h => (flagsByte _ _ h _).toNat) hhalf).trans (AluSpec.byte_eq (decSpec v.toNat c))

end Inc8

/-- A register and F written from one engine result, and completed: what reads back, and the frame. -/
theorem State.advance_set8_flags (s : State) (r : Reg8) (x : AluResult) (len cost : Nat) :
    let t := State.advance { s.set8 r x.res with f := x.flags } len cost
    t.get8 r = x.res ∧ t.f = x.flags ∧ (∀ q, q ≠ r → t.get8 q = s.get8 q) ∧
      t = { s with b := t.b, c := t.c, d := t.d, e := t.e, h := t.h, l := t.l, a := t.a, f := t.f,
                   pc := s.pc + BitVec.ofNat 16 len, cycles := s.cycles + BitVec.ofNat 64 cost } := by
  intro t
  have hget (q : Reg8) : t.get8 q = (s.set8 r x.res).get8 q := by cases q <;> rfl
  refine ⟨?_, rfl, fun q hq => ?_, by cases r <;> rfl⟩
  · rw [hget, State.get8_set8_same]
  · rw [hget, State.get8_set8_other s r q _ hq]

/-- Settles O25. -/
theorem incDecRegister : Obligations.IncDecRegister := by
  intro r s
  obtain ⟨hires, hiflags, hiother, hiframe⟩ := s.advance_set8_flags r (inc8 (s.get8 r) (flagC s.f)) 1
    s.cfg.cycleTable.incDecReg
  obtain ⟨hdres, hdflags, hdother, hdframe⟩ := s.advance_set8_flags r (dec8 (s.get8 r) (flagC s.f)) 1
    s.cfg.cycleTable.incDecReg
  exact ⟨⟨_, exec_incReg s r, by rw [hires, inc8_res_toNat], by rw [hiflags, inc8_flags_toNat], hiother, hiframe⟩,
    ⟨_, exec_decReg s r, by rw [hdres, dec8_res_toNat], by rw [hdflags, dec8_flags_toNat], hdother, hdframe⟩⟩

/-! ## Control -/

/-- Settles O22. -/
theorem nopOnlyAdvances : Obligations.NopOnlyAdvances := ⟨rfl, fun _ => rfl⟩

/-- Settles O34: the halted state has no fault, so its stop is Halted and it is final. -/
theorem haltStopsTheMachine : Obligations.HaltStopsTheMachine := by
  refine ⟨rfl, fun s => ⟨_, exec_eq_run .halt s, rfl, fun hf => ?_⟩⟩
  have ⟨_, _, _, hhalted, _⟩ := everyStateRunsOrHasOneStop (Form.result s .halt)
  have hstop := hhalted.2 ⟨hf, rfl⟩
  exact ⟨hstop, (endedRunIsFinal _).1 (.inl hstop)⟩

end Sys2Proof.Machine
end

section
/-! The accumulator forms (44_quadrant2.md, 45_quadrant3.md R200 to R208): the engine's result and flag byte are those
of the operation on natural numbers, whichever operand the source byte came from. -/

namespace Sys2Proof.Machine

/-! ## The engine and the operations on natural numbers -/

section Engine

variable (o : AluOp) (a b : Byte) (cin : Bool)

theorem aluApply_res_toNat : (aluApply o a b cin).res.toNat = (aluSpec o a.toNat b.toNat cin.toNat).res := by
  cases o with
  | add => exact aluAdd_res_toNat a b false
  | adc => exact aluAdd_res_toNat a b cin
  | sub =>
    have hb := b.isLt
    have hres : (aluSub a b false).res.toNat = (a.toNat + 512 - b.toNat - 0) % 256 := aluSub_res_toNat a b false
    exact hres.trans (show _ = (a.toNat + 256 - b.toNat) % 256 by omega)
  | sbc => exact aluSub_res_toNat a b cin
  | and => exact BitVec.toNat_and ..
  | xor => exact BitVec.toNat_xor ..
  | or => exact BitVec.toNat_or ..
  | cp => rfl

/-- With no borrow in, Z of a subtraction is equality of the operands. -/
theorem aluSub_res_beq_zero : ((aluSub a b false).res == 0) = (a.toNat == b.toNat) := by
  rw [Bool.eq_iff_iff, beq_iff_eq, beq_iff_eq, aluSub_res_eq_zero_iff, BitVec.toNat_inj]

/-- An exclusive or is zero only for equal operands. -/
theorem xor_beq_zero : (a ^^^ b == 0) = (a.toNat == b.toNat) := by
  rw [Bool.eq_iff_iff, beq_iff_eq, beq_iff_eq, BitVec.toNat_inj]
  exact BitVec.xor_eq_zero_iff

theorem aluApply_flags : (aluApply o a b cin).flags =
    flagsByte (aluSpec o a.toNat b.toNat cin.toNat).z (aluSpec o a.toNat b.toNat cin.toNat).n
      (aluSpec o a.toNat b.toNat cin.toNat).h (aluSpec o a.toNat b.toNat cin.toNat).c := by
  cases o with
  | add =>
    refine (aluAdd_flags a b false).trans ?_
    rw [Byte.beq_zero, aluAdd_res_toNat]
    rfl
  | adc =>
    refine (aluAdd_flags a b cin).trans ?_
    rw [Byte.beq_zero, aluAdd_res_toNat]
    rfl
  | sbc =>
    refine (aluSub_flags a b cin).trans ?_
    rw [Byte.beq_zero, aluSub_res_toNat]
    rfl
  | sub | cp =>
    refine (aluSub_flags a b false).trans ?_
    rw [aluSub_res_beq_zero]
    rfl
  | and => exact congrArg (flagsByte · false true false) ((Byte.beq_zero _).trans (by rw [BitVec.toNat_and]; rfl))
  | or => exact congrArg (flagsByte · false false false) ((Byte.beq_zero _).trans (by rw [BitVec.toNat_or]; rfl))
  | xor => exact congrArg (flagsByte · false false false) (xor_beq_zero a b)

theorem aluApply_flags_toNat : (aluApply o a b cin).flags.toNat = (aluSpec o a.toNat b.toNat cin.toNat).byte := by
  rw [aluApply_flags]
  exact AluSpec.byte_eq _

end Engine

/-! ## The three operands -/

/-- Applying an operation and completing is the specified accumulator operation, for every source byte. -/
theorem aluCompleted_applyAlu (s : State) (o : AluOp) (v : Byte) (len cost : Nat) :
    aluCompleted o v len cost s ((s.applyAlu o v).advance len cost) := by
  refine ⟨?_, ?_, by cases o <;> rfl⟩
  · rw [State.advance_a, State.applyAlu_a, aluApply_res_toNat]
  · rw [State.advance_f, State.applyAlu_f, aluApply_flags_toNat]

/-- Settles O35. -/
theorem aluWithRegister : Obligations.AluWithRegister :=
  ⟨rfl, fun o src s => ⟨decode_aluReg src o, _, exec_aluReg s o src, aluCompleted_applyAlu s o _ 1 _⟩⟩

/-- Settles O36. -/
theorem aluWithMemory : Obligations.AluWithMemory := by
  refine ⟨rfl, fun o s => ⟨decode_aluAtHL o, fun h => ?_, fun h => ?_⟩⟩ <;> rw [exec_aluAtHL]
  · exact ⟨_, State.loadThen_ok h _, aluCompleted_applyAlu s o _ 1 _⟩
  · exact State.loadThen_out h _

/-- Settles O37. -/
theorem aluWithImmediate : Obligations.AluWithImmediate :=
  ⟨rfl, fun o d8 s => ⟨decode_aluImm o d8, _, exec_aluImm s o d8, aluCompleted_applyAlu s o d8 2 _⟩⟩

end Sys2Proof.Machine
end

section
/-! The forms that write the byte at HL (42_quadrant0.md R145, R147, R149; 43_quadrant1.md R172), and a store into the
instruction stream (20_memory.md R53). -/

namespace Sys2Proof.Machine

/-- A state whose memory is `s`'s with one byte stored reads as `s` but for that byte. -/
theorem wroteByte_of_mem {s t : State} {addr : Word} {v : Byte} (hwf : s.mem.wf)
    (h : t.mem = s.mem.write addr.toNat v) : wroteByte addr v s t := fun x => by
  rw [h, Memory.read_write hwf]

/-- Settles O28. -/
theorem storeImmediate : Obligations.StoreImmediate := fun d8 s hwf =>
  ⟨fun h => ⟨_, (exec_eq_run (.ldAtHL_D8 d8) s).trans (Form.run_of_completes h), wroteByte_of_mem hwf rfl, rfl⟩,
    fun h => (exec_eq_run (.ldAtHL_D8 d8) s).trans (Form.run_of_stops h)⟩

/-- LD (HL),r with HL in bounds. -/
theorem exec_ldAtHLReg_ok {s : State} (src : Reg8) (h : s.inBounds s.hl = true) :
    exec (Instr.ldAtHLReg src) s = .next ((s.poke s.hl (s.get8 src)).advance 1 s.cfg.cycleTable.ldAtHLReg) :=
  (exec_ldAtHLReg s src).trans (State.storeThen_ok h _ _)

theorem exec_ldAtHLReg_out {s : State} (src : Reg8) (h : s.inBounds s.hl = false) :
    exec (Instr.ldAtHLReg src) s = .fault (.memoryOutOfBounds s.hl .write) :=
  (exec_ldAtHLReg s src).trans (State.storeThen_out h _ _)

/-- Settles O33. -/
theorem storeRegister : Obligations.StoreRegister :=
  ⟨rfl, fun src _ hwf => ⟨decode_ldAtHLReg src, fun h => ⟨_, exec_ldAtHLReg_ok src h, wroteByte_of_mem hwf rfl, rfl⟩,
    exec_ldAtHLReg_out src⟩⟩

/-- An 8-bit increment's result is the specified one, as a byte. -/
theorem inc8_res (v : Byte) (c : Bool) : (inc8 v c).res = BitVec.ofNat 8 (incSpec v.toNat c).res := by
  rw [← inc8_res_toNat, BitVec.ofNat_toNat, BitVec.setWidth_eq]

theorem dec8_res (v : Byte) (c : Bool) : (dec8 v c).res = BitVec.ofNat 8 (decSpec v.toNat c).res := by
  rw [← dec8_res_toNat, BitVec.ofNat_toNat, BitVec.setWidth_eq]

/-- Settles O26: the read at HL is the first access, so it is the fault. -/
theorem incDecMemoryByte : Obligations.IncDecMemoryByte := by
  refine fun s hwf => ⟨fun h => ?_, fun h => ?_, fun h => ⟨?_, ?_⟩⟩
  · rw [← inc8_res]
    exact ⟨_, (exec_eq_run .incAtHL s).trans (Form.run_of_completes h),
      wroteByte_of_mem hwf rfl, inc8_flags_toNat .., rfl⟩
  · rw [← dec8_res]
    exact ⟨_, (exec_eq_run .decAtHL s).trans (Form.run_of_completes h),
      wroteByte_of_mem hwf rfl, dec8_flags_toNat .., rfl⟩
  · exact (exec_eq_run .incAtHL s).trans (Form.run_of_stops h)
  · exact (exec_eq_run .decAtHL s).trans (Form.run_of_stops h)

/-- Settles O59: after the store, PC is HL, in bounds, and reads the byte just written. -/
theorem storeIntoNextInstructionIsExecuted : Obligations.StoreIntoNextInstructionIsExecuted := by
  intro src s t i hwf hhl hexec hrun hd
  cases hin : s.inBounds s.hl with
  | false => rw [exec_ldAtHLReg_out src hin] at hexec; cases hexec
  | true =>
    rw [exec_ldAtHLReg_ok src hin] at hexec
    have ht := Host.Outcome.next.inj hexec
    have hpc : t.pc = s.hl := by rw [← ht, hhl]; rfl
    refine step_of_holds hrun (State.holds_of_decode_byte hd ?_ ?_) <;> rw [hpc, ← ht]
    · exact Memory.read_write_same hwf _ _
    · exact hin

end Sys2Proof.Machine
end

section
/-! Control transfer (42_quadrant0.md R150, R151; 45_quadrant3.md R210): the relative jumps and JP cc. -/

namespace Sys2Proof.Machine

/-- The target of a relative jump as a number, for any offset. -/
theorem jrTarget_toNat (s : State) (e : Int) : ((jrTarget s e).toNat : Int) = ((s.pc.toNat : Int) + 2 + e) % 65536 := by
  have hsum : (jrTarget s e).toNat = ((s.pc.toNat + 2) % 65536 + (e % 65536).toNat) % 65536 := by
    rw [jrTarget, BitVec.toNat_add, BitVec.toNat_add, BitVec.toNat_ofInt]
    rfl
  omega

/-- Settles O29. -/
theorem relativeJumps : Obligations.RelativeJumps := by
  refine fun e cc s => ⟨⟨_, exec_eq_run (.jr e) s, jrTarget_toNat s e, rfl⟩, fun h => ?_, fun h => ?_⟩ <;>
    rw [exec_jrCond]
  · exact ⟨_, if_pos h, jrTarget_toNat s e, rfl⟩
  · exact if_neg (Bool.eq_false_iff.1 h)

/-- The two bytes of a JR at PC. -/
theorem State.holds_jr {s : State} (h0 : s.inBounds s.pc = true) (h1 : s.inBounds (s.pc + 1) = true)
    (hop : s.peek s.pc = 0x18) : s.Holds (.jr (s.peek (s.pc + 1)).toInt) := by
  obtain ⟨hrange, hbyte⟩ := offset_of_byte (s.peek (s.pc + 1))
  refine ⟨hrange, ?_, fun n hn => ?_⟩
  · show [s.peek s.pc, s.peek (s.pc + 1)] = [0x18, BitVec.ofInt 8 (s.peek (s.pc + 1)).toInt]
    rw [hop, hbyte]
  · have hn : n < 2 := hn
    interval_cases n
    · simpa using h0
    · exact h1

/-- Settles O30: the offset byte's signed value, by its sign bit, in the target. -/
theorem relativeJumpFromBytes : Obligations.RelativeJumpFromBytes := by
  intro s hr h0 h1 hop
  have hpc := jrTarget_toNat s (s.peek (s.pc + 1)).toInt
  have hoff := BitVec.toInt_eq_toNat_cond (s.peek (s.pc + 1))
  refine ⟨_, (step_of_holds hr (State.holds_jr h0 h1 hop)).trans (exec_eq_run (.jr _) s), fun hlt => ?_, fun hge => ?_⟩
  · rw [if_pos (by omega)] at hoff
    show (jrTarget s _).toNat = _
    omega
  · rw [if_neg (by omega)] at hoff
    show (jrTarget s _).toNat = _
    omega

/-- Settles O39. -/
theorem conditionalJump : Obligations.ConditionalJump := by
  refine ⟨rfl, rfl, fun cc a16 s => ⟨?_, exec_jpCond s cc a16⟩⟩
  rw [decode_jpCond, hiLo_hiByte_loByte]

end Sys2Proof.Machine
end

section
/-! The stack forms (45_quadrant3.md R209, R211 to R215): each is `Push16` or `Pop16` and what it does with the word. -/

namespace Sys2Proof.Machine

/-! ## Forms that push -/

/-- A state with `s`'s memory but the pushed word's two bytes reads as the pushed state. -/
theorem pushedWord_of_mem {s t : State} {v : Word} (hwf : s.mem.wf) (h : t.mem = (s.pushed v).mem) :
    pushedWord v s t := fun x => by rw [h, State.pushedWord_pushed hwf v]

/-- Settles O40. -/
theorem conditionalCall : Obligations.ConditionalCall := by
  refine fun cc a16 s hwf => ⟨fun h h1 h2 => ?_, fun h h1 => ?_, fun h h1 h2 => ?_, fun h => ?_⟩ <;> rw [exec_callCond]
  · exact ⟨_, (if_pos h).trans (State.push16Then_ok h1 h2 _), pushedWord_of_mem hwf rfl, rfl⟩
  · exact (if_pos h).trans (State.push16Then_out_high h1 _)
  · exact (if_pos h).trans (State.push16Then_out_low h1 h2 _)
  · exact if_neg (Bool.eq_false_iff.1 h)

/-- Settles O41. -/
theorem restartCallsItsVector : Obligations.RestartCallsItsVector := by
  intro t s ht hwf
  rw [exec_rst s t ht]
  exact ⟨decode_rst ht, fun h1 h2 => ⟨_, State.push16Then_ok h1 h2 _, pushedWord_of_mem hwf rfl, rfl⟩,
    fun h1 => State.push16Then_out_high h1 _, fun h1 h2 => State.push16Then_out_low h1 h2 _⟩

/-- Settles O42. -/
theorem pushStoresThePair : Obligations.PushStoresThePair := by
  refine ⟨rfl, fun p s hwf => ?_⟩
  rw [exec_pushPair]
  exact ⟨decode_pushPair p, fun h1 h2 => ⟨_, State.push16Then_ok h1 h2 _, pushedWord_of_mem hwf rfl, rfl⟩,
    fun h1 => State.push16Then_out_high h1 _, fun h1 h2 => State.push16Then_out_low h1 h2 _⟩

/-! ## Forms that pop -/

/-- Settles O38. -/
theorem conditionalReturn : Obligations.ConditionalReturn := by
  refine ⟨rfl, rfl, fun cc s => ?_⟩
  rw [exec_retCond]
  exact ⟨decode_retCond cc, fun h h1 h2 => (if_pos h).trans (State.pop16Then_ok h1 h2 _),
    fun h h1 => (if_pos h).trans (State.pop16Then_out_low h1 _),
    fun h h1 h2 => (if_pos h).trans (State.pop16Then_out_high h1 h2 _), fun h => if_neg (Bool.eq_false_iff.1 h)⟩

/-- The state a completed POP leaves. -/
def State.poppedTo (s : State) (p : StackPair) : State :=
  (State.setStackPair { s with sp := s.sp + 2 } p (s.popped p (stackTop s))).advance 1 s.cfg.cycleTable.pop

theorem exec_popPair_ok {s : State} (p : StackPair) (h1 : s.inBounds s.sp = true)
    (h2 : s.inBounds (s.sp + 1) = true) : exec (Instr.popPair p) s = .next (s.poppedTo p) :=
  (exec_popPair s p).trans (State.pop16Then_ok h1 h2 _)

/-- The pair reads back as what POP writes to it, masked for AF. -/
theorem State.getStackPair_poppedTo (s : State) (p : StackPair) :
    (s.poppedTo p).getStackPair p = s.popped p (stackTop s) := by
  rw [State.poppedTo, State.getStackPair_advance, State.getStackPair_setStackPair_same]

theorem State.getStackPair_poppedTo_other (s : State) {p q : StackPair} (h : q ≠ p) :
    (s.poppedTo p).getStackPair q = s.getStackPair q := by
  rw [State.poppedTo, State.getStackPair_advance, State.getStackPair_setStackPair_other _ h]
  cases q <;> rfl

@[simp] theorem State.poppedTo_sp (s : State) (p : StackPair) : (s.poppedTo p).sp = s.sp + 2 := by cases p <;> rfl

/-- Only AF is masked (R214, R215). -/
theorem State.popped_of_ne_af (s : State) {p : StackPair} (h : p ≠ .af) (w : Word) : s.popped p w = w := by
  cases p with
  | af => exact absurd rfl h
  | _ => rfl

/-- Settles O43. -/
theorem popLoadsThePair : Obligations.PopLoadsThePair := by
  refine ⟨rfl, fun p s => ⟨decode_popPair p, fun hp h1 h2 => ?_, fun h1 => ?_, fun h1 h2 => ?_⟩⟩
  · refine ⟨s.poppedTo p, exec_popPair_ok p h1 h2, ?_, fun q hq => s.getStackPair_poppedTo_other hq, ?_⟩
    · rw [State.getStackPair_poppedTo, State.popped_of_ne_af s hp]
    · cases p with
      | af => exact absurd rfl hp
      | _ => rfl
  · exact (exec_popPair s p).trans (State.pop16Then_out_low h1 _)
  · exact (exec_popPair s p).trans (State.pop16Then_out_high h1 h2 _)

/-- The mask of POP AF, as a number. -/
theorem and_0xF0_toNat (f : Byte) : (f &&& 0xF0).toNat = f.toNat / 16 * 16 := by
  have all : ∀ f : Byte, (f &&& 0xF0).toNat = f.toNat / 16 * 16 := by decide
  exact all f

theorem State.popped_af_of_masks {s : State} (h : s.cfg.popAfMasksF = true) (w : Word) :
    s.popped .af w = hiLo (hiByte w) (loByte w &&& 0xF0) := if_pos h

theorem State.popped_af_of_not_masks {s : State} (h : s.cfg.popAfMasksF = false) (w : Word) : s.popped .af w = w :=
  if_neg (Bool.eq_false_iff.1 h)

/-- Masking touches F alone: A is the high byte either way. -/
theorem State.hiByte_popped_af (s : State) (w : Word) : hiByte (s.popped .af w) = hiByte w := by
  cases h : s.cfg.popAfMasksF with
  | true => rw [State.popped_af_of_masks h, hiByte_hiLo]
  | false => rw [State.popped_af_of_not_masks h]

/-- Settles O44. -/
theorem popAFLoadsFlags : Obligations.PopAFLoadsFlags := by
  refine fun s h1 h2 => ⟨s.poppedTo .af, exec_popPair_ok .af h1 h2, ?_, fun hm => ?_, fun hm => ?_, rfl⟩
  · exact (s.hiByte_popped_af _).trans (hiByte_hiLo ..)
  · show (loByte (s.popped .af (stackTop s))).toNat = _
    rw [State.popped_af_of_masks hm, loByte_hiLo, and_0xF0_toNat, stackTop, loByte_hiLo]
  · show loByte (s.popped .af (stackTop s)) = _
    rw [State.popped_af_of_not_masks hm, stackTop, loByte_hiLo]

/-! ## A pop after a push -/

/-- A byte with its low nibble clear is its own mask. -/
theorem and_0xF0_of_low {f : Byte} (h : f &&& 0x0F = 0) : f &&& 0xF0 = f := by
  have all : ∀ f : Byte, f &&& 0x0F = 0 → f &&& 0xF0 = f := by decide
  exact all f h

/-- Under the invariant POP's mask changes nothing of a pair's own value: F's low nibble is clear already (R26). -/
theorem State.popped_getStackPair {s : State} (hs : s.Inv) (p : StackPair) :
    s.popped p (s.getStackPair p) = s.getStackPair p := by
  obtain ⟨-, -, hlow⟩ := hs
  cases p with
  | af =>
    show s.popped .af (hiLo s.a s.f) = hiLo s.a s.f
    cases hm : s.cfg.popAfMasksF with
    | true => rw [State.popped_af_of_masks hm, hiByte_hiLo, loByte_hiLo, and_0xF0_of_low (hlow hm)]
    | false => exact State.popped_af_of_not_masks hm _
  | _ => rfl

/-- Settles O45: the pop finds the pushed word on top, at the two addresses of the push. -/
theorem pushPopRoundTrip : Obligations.PushPopRoundTrip := by
  intro p s hs h1 h2
  obtain ⟨-, hpush⟩ := pushStoresThePair
  obtain ⟨-, hpush, -, -⟩ := hpush p s hs.1
  obtain ⟨t, ht, hword, hframe⟩ := hpush h1 h2
  have hsp : t.sp = s.sp - 2 := by rw [hframe]
  have hcfg : t.cfg = s.cfg := by rw [hframe]
  have hlow : t.inBounds t.sp = true := by rw [State.inBounds_of_cfg hcfg, hsp, h2]
  have hhigh : t.inBounds (t.sp + 1) = true := by
    rw [State.inBounds_of_cfg hcfg, hsp, Word.sub_two_add_one, h1]
  have hpopped : t.popped p (s.getStackPair p) = s.popped p (s.getStackPair p) := by
    cases p <;> simp only [State.popped, hcfg]
  refine ⟨t, t.poppedTo p, ht, exec_popPair_ok p hlow hhigh, ?_, ?_⟩
  · rw [State.getStackPair_poppedTo, stackTop_of_pushedWord hword hsp, hpopped, State.popped_getStackPair hs]
  · rw [State.poppedTo_sp, hsp, BitVec.sub_add_cancel]

end Sys2Proof.Machine
end

section
/-! The byte classes of the whole-machine rules (10_state.md R22, R27; 20_memory.md R49; 41_execution_loop.md R124;
30_encoding.md R67), form by form: an opcode byte is in a class exactly when its instruction's form is. -/

namespace Sys2Proof.Machine

/-- The forms that write F (R27). -/
def Form.writesFlags : Form → Bool
  | .incReg _ | .decReg _ | .incAtHL | .decAtHL | .aluReg _ _ | .aluAtHL _ | .aluImm _ _ | .pop .af => true
  | _ => false

/-- The forms that may write memory (R49). -/
def Form.stores : Form → Bool
  | .incAtHL | .decAtHL | .ldAtHLImm _ | .ldAtHLReg _ | .callCond _ _ | .rst _ | .push _ => true
  | _ => false

/-- The forms that may write SP (R22). -/
def Form.movesStack : Form → Bool
  | .ldPairImm .sp _ | .incPair .sp | .decPair .sp | .retCond _ | .callCond _ _ | .rst _ | .push _ | .pop _ => true
  | _ => false

/-- The condition a form tests, if it is conditional (R67). -/
def Form.cond : Form → Option Cond
  | .jrCond cc _ | .retCond cc | .jpCond cc _ | .callCond cc _ => some cc
  | _ => none

/-- The forms that may transfer control (R124). -/
def Form.transfers : Form → Bool
  | .jr _ | .rst _ | .jrCond _ _ | .retCond _ | .jpCond _ _ | .callCond _ _ => true
  | _ => false

/-- The length of a form's instructions in bytes (R61). -/
def Form.length : Form → Nat
  | .ldPairImm _ _ | .jpCond _ _ | .callCond _ _ => 3
  | .ldRegImm _ _ | .ldAtHLImm _ | .jr _ | .jrCond _ _ | .aluImm _ _ => 2
  | _ => 1

theorem writesFlagsByte_opcode (i : Instr) : writesFlagsByte i.opcode.toNat = i.form.writesFlags := by
  cases i <;> simp only [Instr.opcode] <;> rfl

theorem storesByte_opcode (i : Instr) : storesByte i.opcode.toNat = i.form.stores := by
  cases i <;> simp only [Instr.opcode] <;> rfl

theorem movesStackByte_opcode (i : Instr) : movesStackByte i.opcode.toNat = i.form.movesStack := by
  cases i <;> simp only [Instr.opcode] <;> rfl

theorem transfersByte_opcode (i : Instr) : transfersByte i.opcode.toNat = i.form.transfers := by
  cases i <;> simp only [Instr.opcode] <;> rfl

/-- The condition field of a conditional byte is the condition its form tests. -/
theorem form_cond {i : Instr} (h : conditionalByte i.opcode.toNat = true) :
    i.form.cond = some (condOf (i.opcode.toNat / 8 % 4)) := by
  cases i with
  | jrNZ | jrZ | jrNC | jrC | retNZ | retZ | retNC | retC | jpNZ | jpZ | jpNC | jpC | callNZ | callZ | callNC | callC =>
    simp only [Instr.opcode]
    rfl
  | _ =>
    simp only [Instr.opcode] at h
    cases h

theorem form_length (i : Instr) : i.length = i.form.length := by cases i <;> rfl

/-- A taken branch's extra cost added to the base is the taken cost. -/
theorem add_ite_zero (n k : Nat) (b : Bool) : n + (if b = true then k else 0) = if b = true then n + k else n := by
  cases b <;> rfl

/-- The table's cost of an opcode byte is the form's under the default cycle table (R330). -/
theorem tableCost_opcode (i : Instr) (s : State) :
    tableCost i.opcode.toNat s = i.form.cost CycleTable.reference s.f := by
  cases i with
  | jrNZ | jrZ | jrNC | jrC | retNZ | retZ | retNC | retC | jpNZ | jpZ | jpNC | jpC | callNZ | callZ | callNC | callC =>
    simp only [Instr.opcode]
    exact add_ite_zero ..
  | _ => simp only [Instr.opcode]; rfl

end Sys2Proof.Machine
end

section
/-! The whole machine: what a completed instruction can change, by its opcode byte's classes. -/

namespace Sys2Proof.Machine

variable {s t : State} {f : Form} {i : Instr}

/-! ## Registers and memory -/

theorem Form.result_f (h : f.writesFlags = false) (s : State) : (f.result s).f = s.f := by
  cases f with
  | incReg | decReg | incAtHL | decAtHL | aluReg | aluAtHL | aluImm => cases h
  | pop p =>
    cases p with
    | af => cases h
    | _ => rfl
  | jrCond | retCond | jpCond | callCond => rw [Form.result]; split <;> rfl
  | _ => simp [Form.result]

/-- Every flag byte but the popped one is built from four flags. -/
theorem Form.result_f_built (h : f.writesFlags = true) (hpop : f ≠ .pop .af) (s : State) :
    ∃ z n h c, (f.result s).f = flagsByte z n h c := by
  cases f with
  | incReg | decReg | incAtHL | decAtHL => exact ⟨_, _, _, _, rfl⟩
  | aluReg | aluAtHL | aluImm =>
    rw [Form.result, State.advance_f, State.applyAlu_f]
    exact aluApply_flags_built ..
  | pop p =>
    cases p with
    | af => exact absurd rfl hpop
    | _ => cases h
  | _ => cases h

theorem form_ne_pop_af (h : i ≠ .popAF) : i.form ≠ .pop .af := by
  cases i with
  | popAF => exact absurd rfl h
  | _ => exact nofun

/-- Settles O50. -/
theorem onlyFlagWritersChangeF : Obligations.OnlyFlagWritersChangeF := by
  intro i s t h
  obtain ⟨-, rfl⟩ := exec_next h
  rw [writesFlagsByte_opcode]
  refine ⟨fun hw => Form.result_f hw s, fun hw hpop => ?_⟩
  obtain ⟨z, n, h, c, hf⟩ := Form.result_f_built hw (form_ne_pop_af hpop) s
  rw [hf, flagsByte_low]

theorem Form.result_mem (h : f.stores = false) (s : State) : (f.result s).mem = s.mem := by
  cases f with
  | incAtHL | decAtHL | ldAtHLImm | ldAtHLReg | callCond | rst | push => cases h
  | jrCond | retCond | jpCond => rw [Form.result]; split <;> rfl
  | _ => simp [Form.result]

/-- Settles O51. -/
theorem onlyStoringFormsChangeMemory : Obligations.OnlyStoringFormsChangeMemory := by
  intro i s t h hclass
  obtain ⟨-, rfl⟩ := exec_next h
  exact Form.result_mem ((storesByte_opcode i).symm.trans hclass) s

/-- SP is one of the four pairs: writing another leaves it. -/
theorem State.set16_sp_of_ne {p : Pair16} (h : p ≠ .sp) (s : State) (v : Word) : (s.set16 p v).sp = s.sp :=
  s.get16_set16_other h.symm v

theorem Form.result_sp (h : f.movesStack = false) (s : State) : (f.result s).sp = s.sp := by
  cases f with
  | ldPairImm p | incPair p | decPair p => exact State.set16_sp_of_ne (by rintro rfl; cases h) s _
  | retCond | callCond | rst | push | pop => cases h
  | jrCond | jpCond => rw [Form.result]; split <;> rfl
  | _ => simp [Form.result]

/-- Settles O52. -/
theorem onlyStackFormsMoveSP : Obligations.OnlyStackFormsMoveSP := by
  intro i s t h hclass
  obtain ⟨-, rfl⟩ := exec_next h
  exact Form.result_sp ((movesStackByte_opcode i).symm.trans hclass) s

/-! ## PC -/

/-- A conditional form whose condition is false advances past itself and pays the not-taken cost, and that is all. -/
theorem Form.result_of_not_taken {cc : Cond} (hf : f.cond = some cc) (h : condHolds s.f cc = false) :
    f.result s = s.advance f.length (f.cost s.cfg.cycleTable s.f) := by
  cases f with
  | jrCond | retCond | jpCond | callCond =>
    cases hf
    rw [Form.result, Form.cost, if_neg (Bool.eq_false_iff.1 h), if_neg (Bool.eq_false_iff.1 h)]
    rfl
  | _ => cases hf

theorem Form.result_pc_of_not_transfers (hc : f.completes s = true) (h : f.transfers = false) :
    (f.result s).pc = s.pc + BitVec.ofNat 16 f.length := by
  cases f with
  | jr | rst | jrCond | retCond | jpCond | callCond => cases h
  | unimplemented => cases hc
  | _ => simp [Form.result, Form.length]

/-- Settles O54. -/
theorem untakenInstructionsAdvance : Obligations.UntakenInstructionsAdvance := by
  intro i s t h huntaken
  obtain ⟨hc, rfl⟩ := exec_next h
  have hpc : (i.form.result s).pc = s.pc + BitVec.ofNat 16 i.form.length := by
    rcases huntaken with htransfers | ⟨hclass, hcond⟩
    · exact Form.result_pc_of_not_transfers hc ((transfersByte_opcode i).symm.trans htransfers)
    · rw [Form.result_of_not_taken (form_cond hclass) hcond, State.advance_pc]
  rw [hpc, form_length, BitVec.toNat_add, BitVec.toNat_ofNat, Nat.add_mod_mod]

/-! ## Costs -/

/-- Settles O55. -/
theorem cyclesFollowTheOpcodeTable : Obligations.CyclesFollowTheOpcodeTable := by
  intro i s t hct h
  obtain ⟨hc, rfl⟩ := exec_next h
  rw [Form.result_cycles hc, hct, tableCost_opcode, BitVec.toNat_add, BitVec.toNat_ofNat, Nat.add_mod_mod]

/-- Under the default table the not-taken branch of every conditional form is the cheaper one. -/
theorem Form.cost_lt_of_taken {cc : Cond} {x y : Byte} (hf : f.cond = some cc) (hx : condHolds x cc = false)
    (hy : condHolds y cc = true) :
    f.cost CycleTable.reference x < f.cost CycleTable.reference y ∧ f.cost CycleTable.reference y < 2 ^ 64 := by
  cases f with
  | jrCond | retCond | jpCond | callCond =>
    cases hf
    rw [Form.cost, Form.cost, if_neg (Bool.eq_false_iff.1 hx), if_pos hy]
    decide
  | _ => cases hf

/-- What a completed instruction adds to the counter, as a number. -/
theorem cycles_sub_toNat (h : exec i s = .next t) :
    (t.cycles - s.cycles).toNat = i.form.cost s.cfg.cycleTable s.f % 2 ^ 64 := by
  obtain ⟨hc, rfl⟩ := exec_next h
  rw [Form.result_cycles hc, BitVec.add_comm, BitVec.add_sub_cancel, BitVec.toNat_ofNat]

/-- Settles O60. -/
theorem notTakenIsCheaperAndHarmless : Obligations.NotTakenIsCheaperAndHarmless := by
  intro i s t hclass hcond h
  have hf := form_cond hclass
  refine ⟨?_, fun hct s' t' hct' hcond' h' => ?_⟩
  · obtain ⟨-, rfl⟩ := exec_next h
    rw [Form.result_of_not_taken hf hcond]
    rfl
  · obtain ⟨hlt, hbound⟩ := Form.cost_lt_of_taken hf hcond hcond'
    rw [cycles_sub_toNat h, cycles_sub_toNat h', hct, hct', Nat.mod_eq_of_lt (hlt.trans hbound),
      Nat.mod_eq_of_lt hbound]
    exact hlt

end Sys2Proof.Machine
end

section
/-! Timing (70_reset_and_hazards.md R332): a step of a retimed state is the retimed step. -/

namespace Sys2Proof.Machine

variable (s : State) (n : BitVec 64) (ct : CycleTable)

/-- The fetch reads neither the counter nor the cycle table. -/
theorem State.loadListThen_retimed (addr : Word) (m : Nat) (k : List Byte → Result) :
    (s.retimed n ct).loadListThen addr m k = s.loadListThen addr m k := by
  induction m generalizing addr k with
  | zero => rfl
  | succ m ih =>
    rw [State.loadListThen, State.loadListThen]
    simp only [ih]
    rfl

theorem State.fetchThen_retimed (k : Instr → Result) : (s.retimed n ct).fetchThen k = s.fetchThen k := by
  unfold State.fetchThen
  simp only [State.loadListThen_retimed]
  rfl

/-- Two outcomes that differ in time alone: the second's next state is the first's with some cycles after `n` on the
counter and `ct` for its table; with the same table, as many cycles as the first added. -/
def RetimedOutcome : Result → Result → Prop
  | .next t, u =>
    ∃ c, u = .next (t.retimed (n + c) ct) ∧ t.cfg = s.cfg ∧ (ct = s.cfg.cycleTable → t.cycles = s.cycles + c)
  | .fault r, u => u = .fault r
  | .refused _, _ => False

theorem exec_retimed (i : Instr) : RetimedOutcome s n ct (exec i s) (exec i (s.retimed n ct)) := by
  rw [exec_eq_run, exec_eq_run]
  cases hc : i.form.completes s with
  | true =>
    rw [Form.run_of_completes hc, Form.run_of_completes ((Form.completes_retimed ..).trans hc), Form.result_retimed hc]
    exact ⟨_, rfl, (Form.result_completed hc).cfg, fun hct => by rw [Form.result_cycles hc, hct]⟩
  | false =>
    rw [Form.run_of_stops hc, Form.run_of_stops ((Form.completes_retimed ..).trans hc), Form.stopFault_retimed]
    exact rfl

theorem step_retimed : RetimedOutcome s n ct (step s) (step (s.retimed n ct)) := by
  cases hr : s.running with
  | true =>
    have hr' : (s.retimed n ct).running = true := hr
    rw [step_of_running hr, step_of_running hr', State.runInstruction, State.runInstruction, State.fetchThen_retimed]
    rcases s.fetchThen_cases with ⟨i, -, hk⟩ | ⟨bad, -, hk⟩ <;> rw [hk, hk]
    · exact exec_retimed s n ct i
    · exact rfl
  | false =>
    have hr' : (s.retimed n ct).running = false := hr
    cases hf : s.fault with
    | some r =>
      rw [step_of_fault hf, step_of_fault (s := s.retimed n ct) hf]
      exact rfl
    | none =>
      rw [step_of_ended hf hr, step_of_ended (s := s.retimed n ct) hf hr']
      exact ⟨0#64, by rw [BitVec.add_zero], rfl, fun _ => (BitVec.add_zero _).symm⟩

/-- Settles O56. -/
theorem timingDrivesOnlyTheCounter : Obligations.TimingDrivesOnlyTheCounter := by
  refine fun s n => ⟨fun ct => ?_, fun t ht => ?_⟩
  · have h := step_retimed s n ct
    cases hs : step s with
    | next t =>
      rw [hs] at h
      obtain ⟨c, hu, -, -⟩ := h
      rw [State.retimed] at hu
      rw [hu]
      rfl
    | fault r =>
      rw [hs] at h
      have hu : step (s.retimed n ct) = .fault r := h
      rw [State.retimed] at hu
      rw [hu]
    | refused q => rw [hs] at h; exact h.elim
  · have h := step_retimed s n s.cfg.cycleTable
    rw [ht] at h
    obtain ⟨c, hu, hcfg, hcycles⟩ := h
    refine hu.trans ?_
    rw [hcycles rfl, BitVec.add_comm s.cycles, BitVec.add_sub_cancel, State.retimed, ← hcfg]

end Sys2Proof.Machine
end
